-- ==== Sys2Proof/Word.lean ====
section
/-! DEFINITION. The two data widths of the block (00_scope.md R6): bytes of the serial line, the buffers and the
accumulator, and the 32-bit words of the host's register interface. -/

namespace Sys2Proof

/-- 8 bits: a byte of the line, the frame, the FIFO, the response buffer or the accumulator (00_scope.md R6). -/
abbrev Byte := BitVec 8

/-- 32 bits: a value on the host's register interface (00_scope.md R6, 20_memory.md R63). -/
abbrev Word := BitVec 32

end Sys2Proof
end

