-- ==== Sys2Proof/Syntax.lean ====
section
/-! DEFINITION. The commands of the block, one constructor per row of the opcode table (30_encoding.md R93), and the
events of its agents (00_scope.md R8). -/

namespace Sys2Proof

/-- The commands of the ACF command interface, version 1 (30_encoding.md R93). -/
inductive Instr where
  /-- `crc.init` (40_crc.md R123). -/
  | crcInit
  /-- `crc.update b`, `b` the data byte (40_crc.md R124). -/
  | crcUpdate (b : Byte)
  /-- `port.open` (41_framer.md R143). -/
  | portOpen
  /-- `port.close` (41_framer.md R147). -/
  | portClose
  /-- `req.send` (41_framer.md R148). -/
  | reqSend
  /-- `resp.read n`, `n` the maximum length, 1..256 (41_framer.md R151). -/
  | respRead (maxLen : Nat)
  /-- `pkt.validate` (42_validator.md R180). -/
  | pktValidate
deriving DecidableEq, Repr, Inhabited

/-- The widths in which a host may attempt an access; only `word` is part of the interface (20_memory.md R63). -/
inductive AccessWidth where
  | byte
  | half
  | word
deriving DecidableEq, Repr, Inhabited

/-- An access of the host to the register space: `RegRead(off)` or `RegWrite(off, v)` (20_memory.md R61, R62), in any
width and at any offset, so that the accesses the interface refuses can be named (R63, R64). -/
inductive HostAccess where
  | read (width : AccessWidth) (off : Nat)
  | write (width : AccessWidth) (off : Nat) (v : Word)
deriving DecidableEq, Repr, Inhabited

/-- The events that act on the block, each one atomic step (00_scope.md R8). -/
inductive Event where
  /-- The host: a register access (20_memory.md R61, R62). -/
  | host (a : HostAccess)
  /-- The line: `EV_OPEN_OK` (41_framer.md R144). -/
  | openOk
  /-- The line: `EV_OPEN_FAIL` (41_framer.md R145). -/
  | openFail
  /-- The line: `EV_RX(b)` (41_framer.md R154). -/
  | rx (b : Byte)
  /-- The line: `EV_LINE_FAULT` (41_framer.md R155). -/
  | lineFault
  /-- The sequencer: `EV_SETTLE_DONE` (41_framer.md R146). -/
  | settleDone
  /-- The sequencer: `EV_TX` (41_framer.md R149). -/
  | tx
  /-- The sequencer: `EV_WR_TIMEOUT` (41_framer.md R150). -/
  | wrTimeout
  /-- The sequencer: `EV_RD_DONE` (41_framer.md R152). -/
  | rdDone
  /-- The sequencer: `EV_RD_TIMEOUT` (41_framer.md R153). -/
  | rdTimeout
  /-- The reset input `RST` (70_reset_and_hazards.md R231). -/
  | rst
deriving DecidableEq, Repr, Inhabited

/-- Who performs an event: the three agents of 00_scope.md R8, and the reset input beside them (log 9). -/
inductive Agent where
  | host
  | line
  | sequencer
  | resetInput
deriving DecidableEq, Repr

/-- The agent of each event (00_scope.md R8; 41_framer.md R144 to R155). -/
def Event.agent : Event → Agent
  | .host _ => .host
  | .openOk => .line
  | .openFail => .line
  | .rx _ => .line
  | .lineFault => .line
  | .settleDone => .sequencer
  | .tx => .sequencer
  | .wrTimeout => .sequencer
  | .rdDone => .sequencer
  | .rdTimeout => .sequencer
  | .rst => .resetInput

end Sys2Proof
end

