-- ==== Sys2Proof/Config.lean ====
section
/-! DEFINITION. What is fixed for the block: the constants of 00_scope.md R5, the one implementation parameter a rule
depends on, and the free values (opaque constants without a body) that stand for what the spec leaves open. -/

namespace Sys2Proof

/-- `CRC_POLY` (00_scope.md R5). -/
def Config.crcPoly : Byte := 0x8C#8

/-- `CRC_INIT_VALUE` (00_scope.md R5). -/
def Config.crcInitValue : Byte := 0x00#8

/-- `REQ_FRAME` = `AA 02 20 2E`, byte `k` (00_scope.md R5, 41_framer.md R157). -/
def Config.reqFrame (k : Fin 4) : Byte :=
  match k with
  | 0 => 0xAA#8
  | 1 => 0x02#8
  | 2 => 0x20#8
  | 3 => 0x2E#8

/-- `PKT_LEN` (00_scope.md R5). -/
def Config.pktLen : Nat := 13

/-- `PKT_MARKER` (00_scope.md R5). -/
def Config.pktMarker : Byte := 0x20#8

/-- `PKT_COUNT` (00_scope.md R5). -/
def Config.pktCount : Byte := 0x04#8

/-- `READING_SCALE` (00_scope.md R5). -/
def Config.readingScale : Nat := 100

/-- `RXBUF_SIZE` in bytes (00_scope.md R5). -/
def Config.rxbufSize : Nat := 256

/-- `T_WR_TIMEOUT` in seconds (00_scope.md R5). No rule depends on it (R7; log 10). -/
def Config.wrTimeoutSeconds : Nat := 2

/-- `T_RD_TIMEOUT` in seconds (00_scope.md R5). No rule depends on it (R7; log 10). -/
def Config.rdTimeoutSeconds : Nat := 2

/-- OPEN parameter `T_SETTLE`, no value in any source (00_scope.md R5, 93_implementation_defined.md U13). No rule depends
on it (R7; log 10). -/
opaque Config.settleDelay : Nat

/-- OPEN parameter `BAUD`, no value in any source (00_scope.md R5, 93_implementation_defined.md U13). No rule depends on it
(R7; log 10). -/
opaque Config.baud : Nat

/-- OPEN parameter `ACF_BASE`, where the host's own address map has the register space (20_memory.md R60,
93_implementation_defined.md U13). No rule depends on it: the model's accesses carry the offset (log 10). -/
opaque Config.acfBase : Nat

/-- The implementation parameters that a rule depends on: only the depth of the receive FIFO (00_scope.md R5,
93_implementation_defined.md U12). -/
structure Params where
  /-- `RXFIFO_DEPTH`, 1..65535. -/
  rxFifoDepth : Nat
deriving DecidableEq, Repr

/-- The range of 93_implementation_defined.md U12. -/
def Params.valid (p : Params) : Bool := 1 ≤ p.rxFifoDepth && p.rxFifoDepth ≤ 65535

/-- The spec's default, `RXFIFO_DEPTH = 256` (00_scope.md R5). DESIGN CHOICE (log 6): the instance that
`State.reset` describes. -/
def Config.defaultParams : Params := { rxFifoDepth := 256 }

/-- FREE VALUE, DESIGN CHOICE (log 4), safe: what the host reads from an `RXBUF` word that holds an `UNWRITTEN` byte
(10_state.md R45, 93_implementation_defined.md U1: any value). -/
opaque Config.unspecifiedWord : Nat → Word

/-- FREE VALUE, DESIGN CHOICE (log 5), safe: what `VALIDATE` would see in an `UNWRITTEN` byte of the packet, which
happens in no reachable state (42_validator.md R182). -/
opaque Config.unwrittenByte : Nat → Byte

/-- FREE VALUE, DESIGN CHOICE (log 1), safe: the event the agents choose next when State announces none
(00_scope.md R8; 93_implementation_defined.md U8 to U11: the environment's choice). -/
opaque Config.environment : Nat → Event

end Sys2Proof
end

