-- ==== Sys2Proof/Machine/State.lean ====
section
/-! DEFINITION. The state of the block (10_state.md R22 to R33) as plain data, the reasons a step can stop, and the
state after reset (10_state.md R49, 70_reset_and_hazards.md R230). -/

namespace Sys2Proof.Machine

/-- `sess`, the connection state (10_state.md R23). -/
inductive Session where
  | closed
  | opened
deriving DecidableEq, Repr

/-- `pend`, the pending command with its progress (10_state.md R24); it takes the role of a program counter (R21). -/
inductive Pend where
  /-- `NONE`: the block is idle. -/
  | none
  /-- `OPENING`: an `OPEN` was accepted and the attempt has no outcome yet. -/
  | opening
  /-- `SETTLING`: the attempt succeeded and the settle delay has not elapsed. -/
  | settling
  /-- `SENDING(k)`: `k` bytes of the request frame have been transmitted. -/
  | sending (k : Fin 4)
  /-- `READING(m)`: a read of at most `m` bytes is pending, `m` in 1..256. -/
  | reading (m : Nat)
deriving DecidableEq, Repr

/-- `cc`, the completion code (60_exceptions.md R201). The reserved codes 3 to 7 are never written, so they have no
constructor (93_implementation_defined.md U3; log 20). -/
inductive CompletionCode where
  | ok
  | connFault
  | illegalCmd
deriving DecidableEq, Repr

/-- `cause`, the fault cause (60_exceptions.md R202); the reserved codes 5 to 7 are never written (U4; log 20). -/
inductive Cause where
  | none
  | openFailed
  | writeFailed
  | readFailed
  | notOpen
deriving DecidableEq, Repr

/-- `vcode`, the outcome of a validation (42_validator.md R187); the reserved codes 6 and 7 are never written
(U5; log 20). -/
inductive VCode where
  | none
  | ok
  | tooShort
  | checksumMismatch
  | unexpectedMarker
  | unexpectedSensorCount
deriving DecidableEq, Repr

/-- The response buffer (10_state.md R30): the bytes written since reset with their indices, strictly rising. -/
abbrev Memory := List Host.Cell

/-- What an index that is not listed reads as: `UNWRITTEN`, no byte value (10_state.md R30, R49; log 22). -/
def Memory.unlisted : Option Byte := .none

/-- The state. The fields up to `lineErr` are the block's (10_state.md R22 to R32), `txlog` is the spec's observation of
the line (R33), and the last four are the model's own (INVENTORY.md, State). -/
@[ext]
structure State where
  /-- The CRC-8 accumulator (10_state.md R22). -/
  acc : Byte
  /-- The connection state (10_state.md R23). -/
  sess : Session
  /-- The pending command (10_state.md R24). -/
  pend : Pend
  /-- The completion code of the most recently completed command (10_state.md R25). -/
  cc : CompletionCode
  /-- The fault cause that goes with `cc` (10_state.md R25). -/
  cause : Cause
  /-- A write to `CMD` was dropped since the last accepted command (10_state.md R26). -/
  rejBusy : Bool
  /-- The last accepted command is a `CLOSE` that discarded a pending one (10_state.md R27). -/
  aborted : Bool
  /-- The most recent successful decode (10_state.md R28). -/
  reading : Word
  /-- A decode has succeeded since reset (10_state.md R28). -/
  rvalid : Bool
  /-- Outcome of the most recent `VALIDATE` (10_state.md R29). -/
  vcode : VCode
  /-- Received CRC of the most recent `VALIDATE` (10_state.md R29). -/
  vrx : Byte
  /-- Computed CRC of the most recent `VALIDATE` (10_state.md R29). -/
  vcalc : Byte
  /-- Observed value of the most recent `VALIDATE` (10_state.md R29). -/
  vobs : Byte
  /-- The response buffer (10_state.md R30). -/
  rxbuf : Memory
  /-- How many bytes the most recent `READ_RESPONSE` delivered, 0..256 (10_state.md R30, 00_scope.md R6). -/
  rxlen : Nat
  /-- The receive FIFO, in arrival order (10_state.md R31). -/
  fifo : List Byte
  /-- The FIFO overflowed (10_state.md R31). -/
  ovf : Bool
  /-- Hidden: the line broke while no line command was pending (10_state.md R32). -/
  lineErr : Bool
  /-- The bytes the device received, in order (10_state.md R33). -/
  txlog : List Byte
  /-- MODEL: the instance's parameters, which no event changes (log 6). -/
  params : Params
  /-- MODEL: what the host's most recent `RegRead` returned (log 8). -/
  readData : Word
  /-- MODEL: the events announced, the next one first (log 1). -/
  script : List Event
  /-- MODEL: the index of the next free value (log 21). -/
  fresh : Nat
deriving DecidableEq, Repr

/-- Reasons to stop with a fault. There are none: the block has no traps, and every error is a completion code or a
validation result of a next state (60_exceptions.md R207; log 13). -/
inductive Fault where
deriving DecidableEq, Repr

/-- Reasons to take no step. -/
inductive Refusal where
  /-- Raised by `exec` for a command that has no meaning yet; no arm does. Safe. -/
  | notModelled (mnemonic : String)
  /-- Raised by a host access of 8 or 16 bits (20_memory.md R63, U2: no step). Safe. -/
  | narrowAccess
  /-- Raised by a host access at an offset that is not a multiple of 4 (20_memory.md R63, U2: no step). Safe. -/
  | misalignedAccess
  /-- Raised by a host access at an offset of `0x200` or more (20_memory.md R64, U2: no step). Safe. -/
  | outsideAccess
  /-- Raised by an announced event whose enabling condition does not hold (41_framer.md R144 to R155; log 2). Safe. -/
  | eventNotEnabled
deriving DecidableEq, Repr

/-- The state right after reset (10_state.md R49, 70_reset_and_hazards.md R230), at power-on, so that `txlog` is empty.
The last four fields are DESIGN CHOICE (log 6, log 8, log 1, log 21). -/
def State.reset : State where
  acc := 0x00#8
  sess := .closed
  pend := .none
  cc := .ok
  cause := .none
  rejBusy := false
  aborted := false
  reading := 0x00000000#32
  rvalid := false
  vcode := .none
  vrx := 0#8
  vcalc := 0#8
  vobs := 0#8
  rxbuf := []
  rxlen := 0
  fifo := []
  ovf := false
  lineErr := false
  txlog := []
  params := Config.defaultParams
  readData := 0#32
  script := []
  fresh := 0

end Sys2Proof.Machine
end

