-- ==== Sys2Proof/Machine/Flags.lean ====
section
/-! DEFINITION. The flags the block derives, the codes of its enumerated fields, and the packed views `STATUS` and
`VRESULT` of its flags and results (10_state.md R35, R37, R40; 60_exceptions.md R201, R202; 42_validator.md R187). -/

namespace Sys2Proof.Machine

/-- `BUSY`: `pend != NONE` (10_state.md R24, R35). -/
def State.busy (s : State) : Bool := s.pend != .none

/-- `OPEN`: `sess = OPEN` (10_state.md R35). -/
def State.isOpen (s : State) : Bool := s.sess == .opened

/-- The 3-bit code of a completion code (60_exceptions.md R201). -/
def CompletionCode.code : CompletionCode → BitVec 3
  | .ok => 0#3
  | .connFault => 1#3
  | .illegalCmd => 2#3

/-- The 3-bit code of a cause (60_exceptions.md R202). -/
def Cause.code : Cause → BitVec 3
  | .none => 0#3
  | .openFailed => 1#3
  | .writeFailed => 2#3
  | .readFailed => 3#3
  | .notOpen => 4#3

/-- The 3-bit code of a validation outcome (42_validator.md R187). -/
def VCode.code : VCode → BitVec 3
  | .none => 0#3
  | .ok => 1#3
  | .tooShort => 2#3
  | .checksumMismatch => 3#3
  | .unexpectedMarker => 4#3
  | .unexpectedSensorCount => 5#3

/-- The `STATUS` register (10_state.md R37), its fields from bit 31 down to bit 0. -/
def State.statusWord (s : State) : Word :=
  0#17 ++ s.cause.code ++ 0#1 ++ s.cc.code ++ 0#2 ++ BitVec.ofBool s.ovf ++ BitVec.ofBool s.rvalid ++
    BitVec.ofBool s.aborted ++ BitVec.ofBool s.rejBusy ++ BitVec.ofBool s.isOpen ++ BitVec.ofBool s.busy

/-- The `VRESULT` register (10_state.md R40), its fields from bit 31 down to bit 0. -/
def State.vresultWord (s : State) : Word :=
  s.vobs ++ s.vcalc ++ s.vrx ++ 0#5 ++ s.vcode.code

end Sys2Proof.Machine
end

