-- ==== Sys2Proof/Machine/Operands.lean ====
section
/-! DEFINITION. How byte sequences and multi-byte fields are read (20_memory.md R65, R66). The operand fields of a
command word are in Sys2Proof/Decode.lean (30_encoding.md R91, R92). -/

namespace Sys2Proof.Machine

/-- A register that holds four bytes of a sequence: byte `i` in bits `[8i+7:8i]` (20_memory.md R65). -/
def packBytes (b0 b1 b2 b3 : Byte) : Word := b3 ++ b2 ++ b1 ++ b0

/-- A 16-bit field of the packet, big-endian: `hi * 256 + lo` (20_memory.md R66, 42_validator.md R186). -/
def bigEndian16 (hi lo : Byte) : Nat := hi.toNat * 256 + lo.toNat

/-- A raw reading scaled: `zext_32(raw * 100)` (42_validator.md R186). -/
def scaledReading (raw : Nat) : Word := BitVec.ofNat 32 (raw * Config.readingScale)

end Sys2Proof.Machine
end

