-- ==== Sys2Proof/Machine/Ops.lean ====
section
/-! DEFINITION. The named operations over the response buffer and over the state that the commands and events share:
acceptance, completion, the teardown of the session, the report of a connection fault (the block has no other form of
exception entry, 60_exceptions.md R207) and its clearing (R208). -/

namespace Sys2Proof.Machine

/-! ### The response buffer (10_state.md R30) -/

/-- The byte at an index, or `UNWRITTEN`. -/
def Memory.read : Memory → Nat → Option Byte
  | [], _ => Memory.unlisted
  | (k, v) :: rest, a => if k = a then some v else Memory.read rest a

/-- Writing one byte, in canonical form. -/
def Memory.write : Memory → Nat → Byte → Memory
  | [], a, b => [(a, b)]
  | (k, v) :: rest, a, b =>
    if a < k then (a, b) :: (k, v) :: rest
    else if a = k then (a, b) :: rest
    else (k, v) :: Memory.write rest a b

/-- Writing consecutive bytes from an index on (41_framer.md R152). -/
def Memory.writeBytes : Memory → Nat → List Byte → Memory
  | m, _, [] => m
  | m, a, b :: bs => Memory.writeBytes (Memory.write m a b) (a + 1) bs

/-- Every index of the list is above `lo`, and the indices rise strictly. -/
def Memory.risingAbove : Nat → Memory → Bool
  | _, [] => true
  | lo, (k, _) :: rest => lo < k && Memory.risingAbove k rest

/-- The canonical form: indices strictly rising, all below `RXBUF_SIZE`. An unlisted index has no byte value, so no
entry can equal what it reads as. -/
def Memory.wf (m : Memory) : Bool :=
  (match m with
    | [] => true
    | (k, _) :: rest => Memory.risingAbove k rest) && m.all fun c => decide (c.1 < Config.rxbufSize)

/-- The bytes at `n` consecutive indices, each with what `free` gives it where it is `UNWRITTEN`. -/
def Memory.bytesFrom (free : Nat → Byte) (m : Memory) (a n : Nat) : List Byte :=
  (List.range n).map fun i => (m.read (a + i)).getD (free (a + i))

/-! ### Single fields that several rules write -/

/-- `s.acc <- a` (10_state.md R22). -/
def State.setAcc (a : Byte) (s : State) : State := { s with acc := a }

/-- `s.sess <- OPEN` (10_state.md R23). -/
def State.openSession (s : State) : State := { s with sess := .opened }

/-- `s.pend <- p` (10_state.md R24). -/
def State.setPend (p : Pend) (s : State) : State := { s with pend := p }

/-- `s.aborted <- 1` (10_state.md R27). -/
def State.markAborted (s : State) : State := { s with aborted := true }

/-- `s.rxlen <- n` (10_state.md R30). -/
def State.setRxlen (n : Nat) (s : State) : State := { s with rxlen := n }

/-- `s.fifo <- s.fifo ++ [b]` (10_state.md R31). -/
def State.queueByte (b : Byte) (s : State) : State := { s with fifo := s.fifo ++ [b] }

/-- `s.ovf <- 1` (10_state.md R31). -/
def State.markOverflow (s : State) : State := { s with ovf := true }

/-- `s.line_err <- 1` (10_state.md R32). -/
def State.markLineErr (s : State) : State := { s with lineErr := true }

/-- MODEL: a value goes to the host (log 8). -/
def State.returnToHost (v : Word) (s : State) : State := { s with readData := v }

/-- MODEL: the next free value is another one (log 21). -/
def State.drawFresh (s : State) : State := { s with fresh := s.fresh + 1 }

/-! ### Acceptance, completion and teardown -/

/-- `accept()` (30_encoding.md R96). It also ends a fault's report (60_exceptions.md R208). -/
def State.accept (s : State) : State :=
  { s with rejBusy := false, aborted := false, cc := .ok, cause := .none }

/-- `complete(cc, cause)` (00_scope.md R9). -/
def State.complete (cc : CompletionCode) (cause : Cause) (s : State) : State :=
  { s with pend := .none, cc := cc, cause := cause }

/-- `teardown()` (41_framer.md R141). -/
def State.teardown (s : State) : State :=
  { s with sess := .closed, fifo := [], ovf := false, lineErr := false }

/-- The report of a connection fault (60_exceptions.md R201, R207): completion with `CONN_FAULT`. -/
def State.connFault (cause : Cause) (s : State) : State :=
  s.complete .connFault cause

/-- A connection fault of a line command on an open session: `teardown()`, then the report (41_framer.md R141, R148,
R150, R151, R155). -/
def State.lineCommandFault (cause : Cause) (s : State) : State :=
  s.teardown.connFault cause

/-- `emit_tx(b)` (00_scope.md R9, 10_state.md R33). -/
def State.emitTx (b : Byte) (s : State) : State :=
  { s with txlog := s.txlog ++ [b] }

/-- A command word written while busy is dropped (30_encoding.md R97, 60_exceptions.md R204). -/
def State.dropCommand (s : State) : State :=
  { s with rejBusy := true }

/-- Acceptance of a command that a busy block drops (30_encoding.md R96): dropped if a command is pending, else accepted
and performed. -/
def State.issue (perform : State → State) (s : State) : State :=
  if s.busy then s.dropCommand else perform s.accept

/-- What an illegal word does once accepted: `ILLEGAL_CMD`, nothing else (30_encoding.md R95, R96). -/
def State.illegalCommand (s : State) : State :=
  { s with cc := .illegalCmd, cause := .none }

/-- A write of an illegal word to `CMD` (30_encoding.md R96): dropped while busy, else accepted and reported. -/
def State.illegalWrite (s : State) : State :=
  s.issue State.illegalCommand

/-- The result registers of a validation (42_validator.md R180, `result`). -/
def State.recordResult (code : VCode) (rx computed obs : Byte) (s : State) : State :=
  { s with vcode := code, vrx := rx, vcalc := computed, vobs := obs }

/-- A reset by `RST` (70_reset_and_hazards.md R230, R231): the block's state is that of `State.reset`; `txlog` (R33) and
the model's own fields are unchanged (log 9). -/
def State.resetBlock (s : State) : State :=
  { State.reset with
    txlog := s.txlog, params := s.params, readData := s.readData, script := s.script, fresh := s.fresh }

end Sys2Proof.Machine
end

