-- ==== Sys2Proof/Machine/Events.lean ====
section
/-! DEFINITION. The events of the line and of the sequencer (41_framer.md R144 to R155) and the reset input. An event
whose enabling condition does not hold takes no step: it is refused by name (log 2). -/

namespace Sys2Proof.Machine

/-- `EV_OPEN_OK`, enabled when `pend = OPENING` (41_framer.md R144). -/
def eventOpenOk (s : State) : Host.Outcome State Fault Refusal :=
  if s.pend = .opening then .next (s.openSession.setPend .settling) else .refused .eventNotEnabled

/-- `EV_OPEN_FAIL`, enabled when `pend = OPENING` (41_framer.md R145). -/
def eventOpenFail (s : State) : Host.Outcome State Fault Refusal :=
  if s.pend = .opening then .next (s.connFault .openFailed) else .refused .eventNotEnabled

/-- `EV_SETTLE_DONE`, enabled when `pend = SETTLING` (41_framer.md R146). -/
def eventSettleDone (s : State) : Host.Outcome State Fault Refusal :=
  if s.pend = .settling then .next (s.complete .ok .none) else .refused .eventNotEnabled

/-- `EV_TX`, enabled when `pend = SENDING(k)` (41_framer.md R149). -/
def eventTx (s : State) : Host.Outcome State Fault Refusal :=
  match s.pend with
  | .sending k =>
    .next (if k = 3 then (s.emitTx (Config.reqFrame k)).complete .ok .none
      else (s.emitTx (Config.reqFrame k)).setPend (.sending (k + 1)))
  | .none => .refused .eventNotEnabled
  | .opening => .refused .eventNotEnabled
  | .settling => .refused .eventNotEnabled
  | .reading _ => .refused .eventNotEnabled

/-- `EV_WR_TIMEOUT`, enabled when `pend = SENDING(k)` (41_framer.md R150). -/
def eventWrTimeout (s : State) : Host.Outcome State Fault Refusal :=
  match s.pend with
  | .sending _ => .next (s.lineCommandFault .writeFailed)
  | .none => .refused .eventNotEnabled
  | .opening => .refused .eventNotEnabled
  | .settling => .refused .eventNotEnabled
  | .reading _ => .refused .eventNotEnabled

/-- The delivery of `n = min(len(fifo), m)` bytes to the response buffer (41_framer.md R152). -/
def State.deliver (m : Nat) (s : State) : State :=
  { s with
    rxbuf := s.rxbuf.writeBytes 0 (s.fifo.take (min s.fifo.length m))
    fifo := s.fifo.drop (min s.fifo.length m)
    rxlen := min s.fifo.length m }

/-- `EV_RD_DONE`, enabled when `pend = READING(m)` and `len(fifo) >= 1` (41_framer.md R152). -/
def eventRdDone (s : State) : Host.Outcome State Fault Refusal :=
  match s.pend with
  | .reading m => if 1 ≤ s.fifo.length then .next ((s.deliver m).complete .ok .none) else .refused .eventNotEnabled
  | .none => .refused .eventNotEnabled
  | .opening => .refused .eventNotEnabled
  | .settling => .refused .eventNotEnabled
  | .sending _ => .refused .eventNotEnabled

/-- `EV_RD_TIMEOUT`, enabled when `pend = READING(m)` and `len(fifo) = 0` (41_framer.md R153). -/
def eventRdTimeout (s : State) : Host.Outcome State Fault Refusal :=
  match s.pend with
  | .reading _ =>
    if s.fifo.length = 0 then .next ((s.setRxlen 0).complete .ok .none) else .refused .eventNotEnabled
  | .none => .refused .eventNotEnabled
  | .opening => .refused .eventNotEnabled
  | .settling => .refused .eventNotEnabled
  | .sending _ => .refused .eventNotEnabled

/-- `EV_RX(b)`, always enabled (41_framer.md R154). -/
def eventRx (b : Byte) (s : State) : Host.Outcome State Fault Refusal :=
  .next (if s.sess = .opened then
      if s.fifo.length < s.params.rxFifoDepth then s.queueByte b else s.markOverflow
    else s)

/-- `EV_LINE_FAULT`, enabled when `sess = OPEN` (41_framer.md R155). R155 has no case for `OPENING`, which no reachable
state joins with an open session (R142): no step (log 7). -/
def eventLineFault (s : State) : Host.Outcome State Fault Refusal :=
  if s.sess = .opened then
    match s.pend with
    | .sending _ => .next (s.lineCommandFault .writeFailed)
    | .reading _ => .next ((s.setRxlen 0).lineCommandFault .readFailed)
    | .none => .next s.markLineErr
    | .settling => .next s.markLineErr
    | .opening => .refused .eventNotEnabled
  else .refused .eventNotEnabled

/-- The reset input `RST`, at any time (70_reset_and_hazards.md R230, R231). -/
def eventRst (s : State) : Host.Outcome State Fault Refusal := .next s.resetBlock

end Sys2Proof.Machine
end

