-- ==== Sys2Proof/WellFormed.lean ====
section
/-! DEFINITION. The operand ranges of the commands (30_encoding.md R101): a term outside them has no command word. -/

namespace Sys2Proof

/-- The operand is in the range of 30_encoding.md R101: `resp.read n` needs `n` in 1..256; a data byte is 8 bits by its
type. -/
def Instr.wellFormed : Instr → Bool
  | .crcInit => true
  | .crcUpdate _ => true
  | .portOpen => true
  | .portClose => true
  | .reqSend => true
  | .respRead n => 1 ≤ n && n ≤ 256
  | .pktValidate => true

end Sys2Proof
end

