-- ==== Sys2Proof/Decode.lean ====
section
/-! DEFINITION. Command words to commands and back (30_encoding.md R90 to R99). The decoder is total: a word is a command
or is illegal for a named reason (R95, R99). The encoder writes the words of R93 and R101. -/

namespace Sys2Proof

/-- `RSV`, bits 31:16 of a command word (30_encoding.md R91). -/
def rsvField (w : Word) : BitVec 16 := w.extractLsb' 16 16

/-- `OP`, bits 15:8 of a command word (30_encoding.md R91). -/
def opField (w : Word) : BitVec 8 := w.extractLsb' 8 8

/-- `ARG`, bits 7:0 of a command word (30_encoding.md R91). -/
def argField (w : Word) : BitVec 8 := w.extractLsb' 0 8

/-- Operand of `resp.read`: `max_len = ARG + 1`, 1..256, unsigned (30_encoding.md R92). -/
def maxLenOfArg (arg : Byte) : Nat := arg.toNat + 1

/-- The operand byte of `resp.read n`: `n - 1` (30_encoding.md R92, R101). -/
def argOfMaxLen (n : Nat) : Byte := BitVec.ofNat 8 (n - 1)

/-- Why a word is illegal (30_encoding.md R95). -/
inductive IllegalWord where
  /-- `RSV != 0`. -/
  | reservedNotZero
  /-- An `OP` that is not in the table of R93. -/
  | unknownOpcode
  /-- A nonzero `ARG` for an opcode whose `ARG` must be 0. -/
  | argNotZero
deriving DecidableEq, Repr

/-- The decoder's answer: `{illegal} ∪ {commands with operands}` (30_encoding.md R99). -/
inductive Decoded where
  | command (i : Instr)
  | illegal (r : IllegalWord)
deriving DecidableEq, Repr

/-- A command whose `ARG` must be 0 (30_encoding.md R92). -/
def decodeNoArg (i : Instr) (arg : Byte) : Decoded :=
  if arg = 0#8 then .command i else .illegal .argNotZero

/-- The opcode map (30_encoding.md R93) and the operand assembly (R92), for a word whose `RSV` is 0. -/
def decodeOp (op arg : Byte) : Decoded :=
  if op = 0x01#8 then decodeNoArg .crcInit arg
  else if op = 0x02#8 then .command (.crcUpdate arg)
  else if op = 0x10#8 then decodeNoArg .portOpen arg
  else if op = 0x11#8 then decodeNoArg .portClose arg
  else if op = 0x12#8 then decodeNoArg .reqSend arg
  else if op = 0x13#8 then .command (.respRead (maxLenOfArg arg))
  else if op = 0x20#8 then decodeNoArg .pktValidate arg
  else .illegal .unknownOpcode

/-- The decoder of command words (30_encoding.md R94, R95, R99). -/
def decode (w : Word) : Decoded :=
  if rsvField w = 0#16 then decodeOp (opField w) (argField w) else .illegal .reservedNotZero

/-- Legality, as 30_encoding.md R94 writes it. -/
def legal (w : Word) : Bool :=
  w.extractLsb' 16 16 == 0#16 &&
    ([0x02#8, 0x13#8].contains (w.extractLsb' 8 8) ||
      ([0x01#8, 0x10#8, 0x11#8, 0x12#8, 0x20#8].contains (w.extractLsb' 8 8) && w.extractLsb' 0 8 == 0#8))

/-- A command word from its opcode and operand byte, `RSV = 0` (30_encoding.md R91). -/
def commandWord (op arg : Byte) : Word := 0#16 ++ op ++ arg

/-- The encoder: the command word of each line of 30_encoding.md R101. -/
def encode : Instr → Word
  | .crcInit => commandWord 0x01#8 0#8
  | .crcUpdate b => commandWord 0x02#8 b
  | .portOpen => commandWord 0x10#8 0#8
  | .portClose => commandWord 0x11#8 0#8
  | .reqSend => commandWord 0x12#8 0#8
  | .respRead n => commandWord 0x13#8 (argOfMaxLen n)
  | .pktValidate => commandWord 0x20#8 0#8

/-- The word exactly equal to `0x00001100` that is accepted while a command is pending (30_encoding.md R98). -/
def closeWord : Word := 0x00001100#32

/-- The command word whose bits the opcode table numbers `w`, of `nbits` bits, the bits above them 0. A command word is
one 32-bit value written to `CMD`, not bytes in a memory, so no byte order enters (30_encoding.md R90). -/
def tableWord (nbits w : Nat) : Word := BitVec.ofNat 32 (w % 2 ^ nbits)

/-- The command the decoder reads from an opcode-table word; no command is longer than 32 bits (30_encoding.md R100;
log 17). -/
def decodeTableWord (nbits w : Nat) : Option Instr :=
  if nbits ≤ 32 then
    match decode (tableWord nbits w) with
    | .command i => some i
    | .illegal _ => none
  else none

end Sys2Proof
end

