-- ==== Sys2Proof/Machine/Crc.lean ====
section
/-! DEFINITION. The CRC-8 function and the two commands of the accumulator (40_crc.md). -/

namespace Sys2Proof.Machine

/-- One iteration of 40_crc.md R121: the test is on bit 0 before the shift, and the shift comes before the XOR. -/
def crcShift (x : Byte) : Byte :=
  if x.getLsbD 0 then (x >>> 1) ^^^ Config.crcPoly else x >>> 1

/-- `n` iterations of 40_crc.md R121. -/
def crcShifts : Nat → Byte → Byte
  | 0, x => x
  | n + 1, x => crcShifts n (crcShift x)

/-- `crc8_step(a, b)` (40_crc.md R121). -/
def crc8Step (a b : Byte) : Byte := crcShifts 8 (a ^^^ b)

/-- `crc8(seq)` (40_crc.md R120). -/
def crc8 (seq : List Byte) : Byte := seq.foldl crc8Step Config.crcInitValue

/-- `crc.init` (40_crc.md R123). -/
def execCrcInit (s : State) : Host.Outcome State Fault Refusal :=
  .next (s.issue (State.setAcc Config.crcInitValue))

/-- `crc.update b` (40_crc.md R124). -/
def execCrcUpdate (b : Byte) (s : State) : Host.Outcome State Fault Refusal :=
  .next (s.issue fun t => t.setAcc (crc8Step t.acc b))

end Sys2Proof.Machine
end

