-- ==== Sys2Proof/Machine/Framer.lean ====
section
/-! DEFINITION. The four commands of the serial framer (41_framer.md, sections 2 to 4). The events that advance and end
them are in Sys2Proof/Machine/Events.lean. -/

namespace Sys2Proof.Machine

/-- `port.open` (41_framer.md R143). -/
def execPortOpen (s : State) : Host.Outcome State Fault Refusal :=
  .next (s.issue fun t => t.teardown.setPend .opening)

/-- The part of `port.close` before `teardown()`: a pending command is discarded, a pending read with `rxlen` 0
(41_framer.md R147). -/
def State.discardPending (s : State) : State :=
  match s.pend with
  | .none => s
  | .opening => s.markAborted.setPend .none
  | .settling => s.markAborted.setPend .none
  | .sending _ => s.markAborted.setPend .none
  | .reading _ => (s.markAborted.setRxlen 0).setPend .none

/-- `port.close` (41_framer.md R147); accepted also while a command is pending (30_encoding.md R98). -/
def execPortClose (s : State) : Host.Outcome State Fault Refusal :=
  .next s.accept.discardPending.teardown

/-- What an accepted `req.send` does (41_framer.md R148). -/
def State.sendRequest (s : State) : State :=
  if s.sess = .closed then s.connFault .notOpen
  else if s.lineErr then s.lineCommandFault .writeFailed
  else s.setPend (.sending 0)

/-- `req.send` (41_framer.md R148). -/
def execReqSend (s : State) : Host.Outcome State Fault Refusal :=
  .next (s.issue State.sendRequest)

/-- What an accepted `resp.read n` does (41_framer.md R151). -/
def State.readResponse (maxLen : Nat) (s : State) : State :=
  if s.sess = .closed then (s.setRxlen 0).connFault .notOpen
  else if s.lineErr then (s.setRxlen 0).lineCommandFault .readFailed
  else s.setPend (.reading maxLen)

/-- `resp.read n` (41_framer.md R151). -/
def execRespRead (maxLen : Nat) (s : State) : Host.Outcome State Fault Refusal :=
  .next (s.issue (State.readResponse maxLen))

end Sys2Proof.Machine
end

