-- ==== Sys2Proof/Machine/Validator.lean ====
section
/-! DEFINITION. The packet validator (42_validator.md). -/

namespace Sys2Proof.Machine

/-- Byte `i` of the packet the validator reads (42_validator.md R181). An `UNWRITTEN` byte, which no reachable state shows
to it (R182), reads as a free value (log 5). -/
def State.packetByte (s : State) (i : Nat) : Byte :=
  (s.rxbuf.read i).getD (Config.unwrittenByte i)

/-- `rxbuf[0:12)`, the bytes the checksum covers (42_validator.md R183). -/
def State.checkedBytes (s : State) : List Byte :=
  s.rxbuf.bytesFrom Config.unwrittenByte 0 (Config.pktLen - 1)

/-- `s.reading <- r; s.rvalid <- 1` (10_state.md R28). -/
def State.setReading (r : Word) (s : State) : State := { s with reading := r, rvalid := true }

/-- The success path (42_validator.md R186). -/
def State.acceptReading (s : State) : State :=
  s.setReading (scaledReading (bigEndian16 (s.packetByte 4) (s.packetByte 5)))

/-- The four rules in their order, the first that fails deciding (42_validator.md R180, R182 to R188). -/
def State.validate (s : State) : State :=
  if s.rxlen < Config.pktLen then s.recordResult .tooShort 0#8 0#8 0#8
  else
    let computed := crc8 s.checkedBytes
    let rx := s.packetByte 12
    if computed ≠ rx then s.recordResult .checksumMismatch rx computed 0#8
    else if s.packetByte 2 ≠ Config.pktMarker then s.recordResult .unexpectedMarker rx computed (s.packetByte 2)
    else if s.packetByte 3 ≠ Config.pktCount then s.recordResult .unexpectedSensorCount rx computed (s.packetByte 3)
    else s.acceptReading.recordResult .ok rx computed 0#8

/-- `pkt.validate` (42_validator.md R180). -/
def execPktValidate (s : State) : Host.Outcome State Fault Refusal :=
  .next (s.issue State.validate)

end Sys2Proof.Machine
end

