-- ==== Sys2Proof/Machine/Dispatch.lean ====
section
/-! DEFINITION. The meaning of each command: what a write of its word to `CMD` does, acceptance included
(30_encoding.md R96). -/

namespace Sys2Proof.Machine

def exec (i : Instr) (s : State) : Host.Outcome State Fault Refusal :=
  match i with
  | .crcInit => Sys2Proof.Machine.execCrcInit s
  | .crcUpdate b => Sys2Proof.Machine.execCrcUpdate b s
  | .portOpen => Sys2Proof.Machine.execPortOpen s
  | .portClose => Sys2Proof.Machine.execPortClose s
  | .reqSend => Sys2Proof.Machine.execReqSend s
  | .respRead maxLen => Sys2Proof.Machine.execRespRead maxLen s
  | .pktValidate => Sys2Proof.Machine.execPktValidate s

end Sys2Proof.Machine
end

