-- ==== Sys2Proof/Machine/HostPort.lean ====
section
/-! DEFINITION. The host's register port: `RegRead` and `RegWrite` over the 512-byte register space (20_memory.md R60 to
R64), command acceptance (30_encoding.md R96) among them. -/

namespace Sys2Proof.Machine

/-- `REQ_FRAME` as the register `TXFRAME` shows it (10_state.md R42). -/
def txframeWord : Word :=
  packBytes (Config.reqFrame 0) (Config.reqFrame 1) (Config.reqFrame 2) (Config.reqFrame 3)

/-- The constants as the register `CONFIG` shows them (10_state.md R43). -/
def configWord : Word :=
  packBytes Config.crcPoly (BitVec.ofNat 8 Config.pktLen) Config.pktMarker Config.pktCount

/-- The word of the `RXBUF` window at `0x100 + 4k`; none if one of its bytes is `UNWRITTEN` (10_state.md R45). -/
def State.rxbufWord (s : State) (k : Nat) : Option Word :=
  match s.rxbuf.read (4 * k), s.rxbuf.read (4 * k + 1), s.rxbuf.read (4 * k + 2), s.rxbuf.read (4 * k + 3) with
  | some b0, some b1, some b2, some b3 => some (packBytes b0 b1 b2 b3)
  | _, _, _, _ => none

/-- The value of the register at an offset (20_memory.md R61); none where it is unspecified (U1). Meant for the aligned
offsets of the register space. -/
def State.regValue (s : State) (off : Nat) : Option Word :=
  if off = 0x000 then some 0x00000000#32
  else if off = 0x004 then some s.statusWord
  else if off = 0x008 then some (s.acc.setWidth 32)
  else if off = 0x00C then some ((BitVec.ofNat 9 s.rxlen).setWidth 32)
  else if off = 0x010 then some s.vresultWord
  else if off = 0x014 then some s.reading
  else if off = 0x018 then some txframeWord
  else if off = 0x01C then some configWord
  else if off = 0x020 then some ((BitVec.ofNat 16 s.fifo.length).setWidth 32)
  else if off < 0x100 then some 0x00000000#32
  else s.rxbufWord ((off - 0x100) / 4)

/-- `RegRead(off)` (20_memory.md R61): the value goes to the host, here the model's field `readData` (log 8), and the
block does not change. An unspecified value is a free one (log 4). -/
def State.regRead (off : Nat) (s : State) : State :=
  match s.regValue off with
  | some v => s.returnToHost v
  | none => (s.returnToHost (Config.unspecifiedWord s.fresh)).drawFresh

/-- A write to `CMD` (30_encoding.md R96). A busy block drops every word but `CLOSE`'s before it looks at legality; both
`exec` and `illegalWrite` do so. -/
def writeCommand (w : Word) (s : State) : Host.Outcome State Fault Refusal :=
  match decode w with
  | .command i => exec i s
  | .illegal _ => .next s.illegalWrite

/-- `RegWrite(off, v)` (20_memory.md R62): `CMD`, or ignored. -/
def regWrite (off : Nat) (v : Word) (s : State) : Host.Outcome State Fault Refusal :=
  if off = 0x000 then writeCommand v s else .next s

/-- Why the interface refuses an access, if it does (20_memory.md R63, R64; log 12). -/
def accessRefusal (width : AccessWidth) (off : Nat) : Option Refusal :=
  if width ≠ .word then some .narrowAccess
  else if off % 4 ≠ 0 then some .misalignedAccess
  else if 0x200 ≤ off then some .outsideAccess
  else none

/-- A host access (20_memory.md R61 to R64). -/
def hostAccess (a : HostAccess) (s : State) : Host.Outcome State Fault Refusal :=
  match a with
  | .read width off =>
    match accessRefusal width off with
    | some r => .refused r
    | none => .next (s.regRead off)
  | .write width off v =>
    match accessRefusal width off with
    | some r => .refused r
    | none => regWrite off v s

end Sys2Proof.Machine
end

