-- ==== Sys2Proof/Machine/Schedule.lean ====
section
/-! DEFINITION. One event of one agent as one atomic step (00_scope.md R8), and what happens when the model is given an
event that may not be enabled. -/

namespace Sys2Proof.Machine

/-- The step of one event (00_scope.md R8). -/
def performEvent (e : Event) (s : State) : Host.Outcome State Fault Refusal :=
  match e with
  | .host a => hostAccess a s
  | .openOk => eventOpenOk s
  | .openFail => eventOpenFail s
  | .rx b => eventRx b s
  | .lineFault => eventLineFault s
  | .settleDone => eventSettleDone s
  | .tx => eventTx s
  | .wrTimeout => eventWrTimeout s
  | .rdDone => eventRdDone s
  | .rdTimeout => eventRdTimeout s
  | .rst => eventRst s

/-- The event if it can happen, and otherwise nothing: no event of this choice exists in the state (log 2). -/
def State.occur (e : Event) (s : State) : State :=
  match performEvent e s with
  | .next t => t
  | .fault _ => s
  | .refused _ => s

/-- Several events in order, stopping where one is refused. -/
def performEvents : List Event → State → Host.Outcome State Fault Refusal
  | [], s => .next s
  | e :: es, s =>
    match performEvent e s with
    | .next t => performEvents es t
    | .fault r => .fault r
    | .refused r => .refused r

/-- The host action `W 0x000, w` (00_scope.md R10). -/
def cmdWrite (w : Word) : Event := .host (.write .word 0x000 w)

/-- The next event of a state: the announced one, taken off the list (log 1). -/
def State.announced (s : State) (rest : List Event) : State := { s with script := rest }

/-- The free choice of the agents where nothing is announced (log 1, log 21). -/
def State.freeEvent (s : State) : State :=
  s.drawFresh.occur (Config.environment s.fresh)

end Sys2Proof.Machine
end

