-- ==== Sys2Proof/Machine/Step.lean ====
section
/-! DEFINITION. The step of the machine: one event (00_scope.md R8). The block fetches nothing (20_memory.md R75); the
host's `CMD` writes stand among the events State announces (log 1, log 3). -/

namespace Sys2Proof.Machine

/-- One step: the announced event if there is one, else a free choice of the agents (log 1). -/
def step (s : State) : Host.Outcome State Fault Refusal :=
  match s.script with
  | e :: rest => performEvent e (s.announced rest)
  | [] => .next s.freeEvent

/-- The state in which the very next step is the host's write of the opcode-table word to `CMD` (log 3). -/
def State.withFetchWord (s : State) (nbits w : Nat) : State :=
  { s with script := cmdWrite (tableWord nbits w) :: s.script }

end Sys2Proof.Machine
end

