-- ==== Sys2Proof/Machine/HostProgram.lean ====
section
/-! DEFINITION. The notation of host programs (00_scope.md R10) and the assembler (30_encoding.md R101, R102): what a line
stands for, as events of Sys2Proof/Machine/Schedule.lean. No step of the machine uses this file (log 14). -/

namespace Sys2Proof.Machine

/-- A line of the assembler, its operands as written (30_encoding.md R101, R102). -/
inductive AsmLine where
  | crcInit
  | crcUpdate (b : Nat)
  | portOpen
  | portClose
  | reqSend
  | respRead (n : Nat)
  | pktValidate
  /-- Pseudo-instruction `crc.bytes b0, b1, ..., bk`. -/
  | crcBytes (bs : List Nat)
  /-- Pseudo-instruction `resp.readall`. -/
  | respReadAll
deriving DecidableEq, Repr

/-- A data byte, `b` in 0..255; outside the range an assembly error (30_encoding.md R101). -/
def asmByte (b : Nat) : Option Byte := if b < 256 then some (BitVec.ofNat 8 b) else none

/-- The commands of a line, in order; none is an assembly error (30_encoding.md R101, R102). -/
def AsmLine.assemble : AsmLine → Option (List Instr)
  | .crcInit => some [.crcInit]
  | .crcUpdate b => (asmByte b).map fun v => [.crcUpdate v]
  | .portOpen => some [.portOpen]
  | .portClose => some [.portClose]
  | .reqSend => some [.reqSend]
  | .respRead n => if Instr.wellFormed (.respRead n) then some [.respRead n] else none
  | .pktValidate => some [.pktValidate]
  | .crcBytes [] => none
  | .crcBytes (b :: bs) => ((b :: bs).mapM asmByte).map fun vs => .crcInit :: vs.map .crcUpdate
  | .respReadAll => some [.respRead 256]

/-- The host action of a command: `W 0x000, <command word>` (00_scope.md R10, 30_encoding.md R101). -/
def commandEvent (i : Instr) : Event := cmdWrite (encode i)

/-- A line of a host program (00_scope.md R10). -/
inductive HostLine where
  /-- `W off, v`. -/
  | write (off : Nat) (v : Word)
  /-- `R off`. -/
  | read (off : Nat)
  /-- `WAITIDLE` that sees `BUSY = 1` in `busyPolls` reads and then `BUSY = 0`; how many depends on the run (log 14). -/
  | waitIdle (busyPolls : Nat)
  /-- `ENV <event>`. -/
  | env (e : Event)
  /-- An assembler mnemonic. -/
  | asm (l : AsmLine)
deriving DecidableEq, Repr

/-- The events a line stands for (00_scope.md R10). -/
def HostLine.events : HostLine → Option (List Event)
  | .write off v => some [.host (.write .word off v)]
  | .read off => some [.host (.read .word off)]
  | .waitIdle busyPolls => some (List.replicate (busyPolls + 1) (.host (.read .word 0x004)))
  | .env e => some [e]
  | .asm l => l.assemble.map fun is => is.map commandEvent

/-- The events of a host program; none if a line is an assembly error (00_scope.md R10). -/
def hostProgramEvents (p : List HostLine) : Option (List Event) :=
  (p.mapM HostLine.events).map List.flatten

/-- The value of a digit in base 10 or 16. -/
def digitValue (base : Nat) (c : Char) : Option Nat :=
  let v :=
    if '0' ≤ c ∧ c ≤ '9' then c.toNat - '0'.toNat
    else if 'a' ≤ c ∧ c ≤ 'f' then c.toNat - 'a'.toNat + 10
    else if 'A' ≤ c ∧ c ≤ 'F' then c.toNat - 'A'.toNat + 10
    else 16
  if v < base then some v else none

/-- Digits read from the left, after the value `acc`. -/
def digitsValue (base : Nat) : Nat → List Char → Option Nat
  | acc, [] => some acc
  | acc, c :: cs =>
    match digitValue base c with
    | some v => digitsValue base (acc * base + v) cs
    | none => none

/-- A numeric operand: decimal or `0x`-prefixed hexadecimal (30_encoding.md R101). -/
def numeralValue : List Char → Option Nat
  | '0' :: 'x' :: d :: ds => digitsValue 16 0 (d :: ds)
  | d :: ds => digitsValue 10 0 (d :: ds)
  | [] => none

/-- A text without the spaces around it. -/
def trimSpaces (cs : List Char) : List Char :=
  ((cs.dropWhile (· == ' ')).reverse.dropWhile (· == ' ')).reverse

/-- The operands of a line: separated by commas, none if there is no text (30_encoding.md R101, R102). -/
def operandValues (cs : List Char) : Option (List Nat) :=
  if trimSpaces cs = [] then some [] else (cs.splitOn ',').mapM fun o => numeralValue (trimSpaces o)

/-- The line of a mnemonic and its operands (30_encoding.md R101, R102). -/
def asmLineOf (mnemonic : List Char) (ops : List Nat) : Option AsmLine :=
  match ops with
  | [] =>
    if mnemonic = "crc.init".toList then some .crcInit
    else if mnemonic = "port.open".toList then some .portOpen
    else if mnemonic = "port.close".toList then some .portClose
    else if mnemonic = "req.send".toList then some .reqSend
    else if mnemonic = "pkt.validate".toList then some .pktValidate
    else if mnemonic = "resp.readall".toList then some .respReadAll
    else none
  | o :: os =>
    if mnemonic = "crc.bytes".toList then some (.crcBytes (o :: os))
    else if os ≠ [] then none
    else if mnemonic = "crc.update".toList then some (.crcUpdate o)
    else if mnemonic = "resp.read".toList then some (.respRead o)
    else none

/-- The assembler's reading of one line of text: a mnemonic, then its operands (30_encoding.md R101, R102). -/
def parseAsmLine (text : String) : Option AsmLine :=
  let cs := trimSpaces text.toList
  let mnemonic := cs.takeWhile (· != ' ')
  match operandValues (cs.dropWhile (· != ' ')) with
  | some ops => asmLineOf mnemonic ops
  | none => none

end Sys2Proof.Machine
end

