-- ==== Sys2Proof/Safety.lean ====
section
/-! DEFINITION. What holds of every state the block can reach, and the fairness under which a pending command ends
(41_framer.md R142, R156), in the terms the statements use. -/

namespace Sys2Proof.Machine

/-- The invariant of the framer that 41_framer.md R142 states. -/
structure SessionInvariant (s : State) : Prop where
  closedClean : s.sess = .closed → s.fifo = [] ∧ s.ovf = false ∧ s.lineErr = false
  settlingOpen : s.pend = .settling → s.sess = .opened
  sendingOpen : ∀ k, s.pend = .sending k → s.sess = .opened
  readingOpen : ∀ m, s.pend = .reading m → s.sess = .opened
  openingClosed : s.pend = .opening → s.sess = .closed

/-- The ranges and the form of the stored values (10_state.md R24, R30, R31; 93_implementation_defined.md U1, U12). -/
structure StorageInvariant (s : State) : Prop where
  paramsValid : s.params.valid = true
  bufferCanonical : s.rxbuf.wf = true
  lengthInRange : s.rxlen ≤ Config.rxbufSize
  deliveredWritten : ∀ i, i < s.rxlen → ∃ b, s.rxbuf.read i = some b
  fifoFits : s.fifo.length ≤ s.params.rxFifoDepth
  readingInRange : ∀ m, s.pend = .reading m → 1 ≤ m ∧ m ≤ Config.rxbufSize

/-- What the reporting fields can hold together (10_state.md R25, R27, R28; 60_exceptions.md R202, R203;
42_validator.md R186). -/
structure ReportInvariant (s : State) : Prop where
  pendingUnreported : s.pend ≠ .none → s.cc = .ok ∧ s.cause = .none ∧ s.aborted = false
  causeOfFault : s.cause ≠ .none ↔ s.cc = .connFault
  faultClosed : s.cc = .connFault → s.sess = .closed
  abortedClosed : s.aborted = true → s.sess = .closed ∧ s.cc = .ok
  latentFault : s.lineErr = true → s.pend = .none ∨ s.pend = .settling
  readingScaled : ∃ raw, raw < 65536 ∧ s.reading = scaledReading raw
  noReadingYet : s.rvalid = false → s.reading = 0#32
  validatedOnce : s.rvalid = true → s.vcode ≠ .none

/-- The invariant of the machine: every step keeps it, and the state after reset has it. -/
structure Inv (s : State) : Prop where
  session : SessionInvariant s
  storage : StorageInvariant s
  report : ReportInvariant s

/-- The states an instance of the block can reach from reset, whatever its parameters and whatever the agents do:
the announced events are arbitrary, and behind them stands the free choice of the agents (log 1, log 6). -/
inductive Reachable : State → Prop where
  | reset (p : Params) (es : List Event) (valid : p.valid = true) :
      Reachable { State.reset with params := p, script := es }
  | step {s t : State} (before : Reachable s) (next : step s = .next t) : Reachable t

/-- An event happens in a state: it is enabled there (00_scope.md R8). -/
def happens (e : Event) (s : State) : Prop := ∃ t, performEvent e s = .next t

/-- The states of a run in which the agents choose the events of `schedule`, an event that cannot happen leaving the
state as it is (log 2). -/
def scheduled (schedule : Nat → Event) (s : State) : Nat → State
  | 0 => s
  | n + 1 => (scheduled schedule s n).occur (schedule n)

/-- The events that 41_framer.md R156 forces while a command is pending. -/
def Pend.forcedEvents : Pend → List Event
  | .none => []
  | .opening => [.openOk, .openFail]
  | .settling => [.settleDone]
  | .sending _ => [.tx, .wrTimeout]
  | .reading _ => [.rdDone, .rdTimeout]

/-- Weak fairness (00_scope.md R7, 41_framer.md R156): a pending command does not stay in its stage for ever without one
of the stage's events happening (log 11). -/
def FairSchedule (schedule : Nat → Event) (s : State) : Prop :=
  ∀ n, (scheduled schedule s n).pend ≠ .none →
    ∃ m, n ≤ m ∧
      ((scheduled schedule s m).pend.forcedEvents ≠ (scheduled schedule s n).pend.forcedEvents ∨
        (schedule m ∈ (scheduled schedule s m).pend.forcedEvents ∧ happens (schedule m) (scheduled schedule s m)))

end Sys2Proof.Machine
end

