-- ==== Sys2Proof/Certificates/Slice0/Obligations.lean ====
section
/-! DEFINITION. The statements for the provers: what the commands, the events and the whole block do, from the numbered
rules of the spec. -/

open Sys2Proof Sys2Proof.Machine

/-! ### Encoding (30_encoding.md) -/

/-- 30_encoding.md R92, R93: decoding the word of a command gives the command back, every operand included. -/
def Obligations.DecodeOfEncodedCommand : Prop :=
  ∀ i : Instr, i.wellFormed = true → decode (encode i) = .command i

/-- 30_encoding.md R94: a word the decoder reads a command from is the word of that command and of no other, and its
operand is in range. -/
def Obligations.EncodeOfDecodedWord : Prop :=
  ∀ (w : Word) (i : Instr), decode w = .command i → i.wellFormed = true ∧ encode i = w

/-- 30_encoding.md R94: the decoder reads a command from exactly the words that R94's formula calls legal, which are the
words of R93's list; two legal words never mean the same command. -/
def Obligations.CommandsAreTheLegalWords : Prop :=
  (∀ w : Word, (∃ i, decode w = .command i) ↔
    (w.extractLsb' 16 16 = 0#16 ∧
      ((w.extractLsb' 8 8 = 0x02#8 ∨ w.extractLsb' 8 8 = 0x13#8) ∨
        ((w.extractLsb' 8 8 = 0x01#8 ∨ w.extractLsb' 8 8 = 0x10#8 ∨ w.extractLsb' 8 8 = 0x11#8 ∨
          w.extractLsb' 8 8 = 0x12#8 ∨ w.extractLsb' 8 8 = 0x20#8) ∧ w.extractLsb' 0 8 = 0#8)))) ∧
  (∀ w : Word, (∃ i, decode w = .command i) ↔
    (w.toNat = 0x00000100 ∨ (0x00000200 ≤ w.toNat ∧ w.toNat ≤ 0x000002FF) ∨ w.toNat = 0x00001000 ∨
      w.toNat = 0x00001100 ∨ w.toNat = 0x00001200 ∨ (0x00001300 ≤ w.toNat ∧ w.toNat ≤ 0x000013FF) ∨
      w.toNat = 0x00002000)) ∧
  (∀ (w w' : Word) (i : Instr), decode w = .command i → decode w' = .command i → w = w')

/-- 30_encoding.md R93, R95: words written out from the encoding and what they mean. -/
def Obligations.WrittenOutWordsDecode : Prop :=
  decode 0x00000100#32 = .command .crcInit ∧
  decode 0x000002AA#32 = .command (.crcUpdate 0xAA#8) ∧
  decode 0x00001000#32 = .command .portOpen ∧
  decode 0x00001100#32 = .command .portClose ∧
  decode 0x00001200#32 = .command .reqSend ∧
  decode 0x00001300#32 = .command (.respRead 1) ∧
  decode 0x000013FF#32 = .command (.respRead 256) ∧
  decode 0x00002000#32 = .command .pktValidate ∧
  decode 0x00000000#32 = .illegal .unknownOpcode ∧
  decode 0x00000101#32 = .illegal .argNotZero ∧
  decode 0x80000200#32 = .illegal .reservedNotZero

/-! ### The step -/

/-- 30_encoding.md R96, 00_scope.md R8: when the next event is the host's write of a word to `CMD`, the step runs the
decoded command, which is well formed, on the state with that event taken off; an illegal word is the illegal-word
outcome. The announced list is the model's own (log 1, log 3). -/
def Obligations.StepRunsTheDecodedCommand : Prop :=
  (∀ (s : State) (w : Word) (rest : List Event), s.script = .host (.write .word 0x000 w) :: rest →
    (∀ i, decode w = .command i → i.wellFormed = true ∧ step s = exec i { s with script := rest }) ∧
    (∀ r, decode w = .illegal r → step s = .next ({ s with script := rest } : State).illegalWrite)) ∧
  (∀ (s : State) (nbits n : Nat) (i : Instr),
    decodeTableWord nbits n = some i → step (s.withFetchWord nbits n) = exec i s)

/-- The model's choice (log 1, log 2), after 00_scope.md R8: with nothing announced a step always answers, and what it
does is the free event of the agents if it can happen, and nothing to the block if it cannot. -/
def Obligations.UnannouncedStepIsAFreeEvent : Prop :=
  ∀ s : State, s.script = [] →
    ∃ t, step s = .next t ∧
      (performEvent (Config.environment s.fresh) { s with fresh := s.fresh + 1 } = .next t ∨
        ((∀ u, performEvent (Config.environment s.fresh) { s with fresh := s.fresh + 1 } ≠ .next u) ∧
          t = { s with fresh := s.fresh + 1 }))

/-- 41_framer.md R144 to R155, 20_memory.md R63, R64: an event happens exactly when its enabling condition holds.
`EV_LINE_FAULT` while `OPENING` on an open session, which R155 does not list, is the model's choice (log 7). -/
def Obligations.EventsHappenExactlyWhenEnabled : Prop :=
  ∀ (e : Event) (s : State), (∃ t, performEvent e s = .next t) ↔
    match e with
    | .host (.read width off) => width = .word ∧ off % 4 = 0 ∧ off < 0x200
    | .host (.write width off _) => width = .word ∧ off % 4 = 0 ∧ off < 0x200
    | .openOk => s.pend = .opening
    | .openFail => s.pend = .opening
    | .settleDone => s.pend = .settling
    | .tx => ∃ k, s.pend = .sending k
    | .wrTimeout => ∃ k, s.pend = .sending k
    | .rdDone => (∃ m, s.pend = .reading m) ∧ 1 ≤ s.fifo.length
    | .rdTimeout => (∃ m, s.pend = .reading m) ∧ s.fifo.length = 0
    | .rx _ => True
    | .lineFault => s.sess = .opened ∧ s.pend ≠ .opening
    | .rst => True

/-! ### Command acceptance (30_encoding.md section 4) -/

/-- 30_encoding.md R97: while a command is pending, a write to `CMD` of any word but exactly `0x00001100` sets `rej_busy`
and changes nothing else; `rej_busy` then stays 1 until a command is accepted or the block is reset. -/
def Obligations.BusyBlockDropsEveryWordButClose : Prop :=
  (∀ (s : State) (w : Word), s.pend ≠ .none → w ≠ 0x00001100#32 →
    performEvent (.host (.write .word 0x000 w)) s = .next { s with rejBusy := true }) ∧
  (∀ (e : Event) (s t : State), performEvent e s = .next t → s.rejBusy = true → t.rejBusy = false →
    e = .rst ∨ ∃ w, e = .host (.write .word 0x000 w) ∧ (s.pend = .none ∨ w = 0x00001100#32))

/-- 30_encoding.md R95: on an idle block a word with `RSV != 0`, with an opcode that is not in the table, or with a nonzero
`ARG` where it must be 0, completes at once with `ILLEGAL_CMD` and changes nothing but what acceptance clears. -/
def Obligations.IllegalWordCompletesWithIllegalCmd : Prop :=
  ∀ (s : State) (w : Word), s.pend = .none →
    (w.extractLsb' 16 16 ≠ 0#16 ∨
      (w.extractLsb' 8 8 ∉ [0x01#8, 0x02#8, 0x10#8, 0x11#8, 0x12#8, 0x13#8, 0x20#8]) ∨
      (w.extractLsb' 8 8 ∈ [0x01#8, 0x10#8, 0x11#8, 0x12#8, 0x20#8] ∧ w.extractLsb' 0 8 ≠ 0#8)) →
    performEvent (.host (.write .word 0x000 w)) s =
      .next { s with rejBusy := false, aborted := false, cc := .illegalCmd, cause := .none }

/-- 30_encoding.md R92, R93: writing each command word of the table to `CMD` runs the command with the operand its `ARG`
gives, in every state. -/
def Obligations.CommandWordsRunTheirCommands : Prop :=
  ∀ (s : State) (arg : Byte),
    performEvent (.host (.write .word 0x000 0x00000100#32)) s = exec .crcInit s ∧
    performEvent (.host (.write .word 0x000 (0x00000200#32 ||| arg.setWidth 32))) s = exec (.crcUpdate arg) s ∧
    performEvent (.host (.write .word 0x000 0x00001000#32)) s = exec .portOpen s ∧
    performEvent (.host (.write .word 0x000 0x00001100#32)) s = exec .portClose s ∧
    performEvent (.host (.write .word 0x000 0x00001200#32)) s = exec .reqSend s ∧
    performEvent (.host (.write .word 0x000 (0x00001300#32 ||| arg.setWidth 32))) s =
      exec (.respRead (arg.toNat + 1)) s ∧
    performEvent (.host (.write .word 0x000 0x00002000#32)) s = exec .pktValidate s

/-- 10_state.md R26, R27: `rej_busy` and `aborted` after any event: an accepted word clears `rej_busy` and sets `aborted`
exactly if it is a `CLOSE` that finds a command pending; a dropped word sets `rej_busy`; a reset clears both; nothing
else writes them. -/
def Obligations.RejBusyAndAbortedFollowAcceptance : Prop :=
  ∀ (e : Event) (s t : State), performEvent e s = .next t →
    (∀ w, e = .host (.write .word 0x000 w) → (s.pend = .none ∨ w = 0x00001100#32) →
      t.rejBusy = false ∧ (t.aborted = true ↔ s.pend ≠ .none)) ∧
    (∀ w, e = .host (.write .word 0x000 w) → s.pend ≠ .none → w ≠ 0x00001100#32 →
      t.rejBusy = true ∧ t.aborted = s.aborted) ∧
    (e = .rst → t.rejBusy = false ∧ t.aborted = false) ∧
    ((∀ w, e ≠ .host (.write .word 0x000 w)) → e ≠ .rst → t.rejBusy = s.rejBusy ∧ t.aborted = s.aborted)

/-! ### The CRC-8 accumulator (40_crc.md) -/

/-- 40_crc.md R122: the CRC of the empty sequence and of a sequence with one byte more; the step is the 8-iteration loop
on the XOR; the loop is linear over XOR, keeps 0 and is a bijection; a sequence followed by its own CRC has CRC 0; the
order of the bytes matters; the check value of "123456789". -/
def Obligations.CrcLoopIsALinearBijection : Prop :=
  crc8 [] = 0x00#8 ∧
  (∀ seq b, crc8 (seq ++ [b]) = crc8Step (crc8 seq) b) ∧
  (∀ a b, crc8Step a b = crcShifts 8 (a ^^^ b)) ∧
  (∀ x y, crcShifts 8 (x ^^^ y) = crcShifts 8 x ^^^ crcShifts 8 y) ∧
  crcShifts 8 0#8 = 0#8 ∧
  Function.Bijective (crcShifts 8) ∧
  (∀ seq, crc8 (seq ++ [crc8 seq]) = 0x00#8) ∧
  crc8 [0xAA#8, 0x02#8] = 0xB5#8 ∧ crc8 [0x02#8, 0xAA#8] = 0x40#8 ∧
  crc8 [0x31#8, 0x32#8, 0x33#8, 0x34#8, 0x35#8, 0x36#8, 0x37#8, 0x38#8, 0x39#8] = 0xA1#8

/-- 40_crc.md R127, 10_state.md R42, R43: the fourth byte of the request frame is the CRC-8 of its first three, with the
accumulator values of R127 on the way; `TXFRAME` holds the frame and `CONFIG` the constants as R42 and R43 lay them out. -/
def Obligations.RequestFrameEndsWithItsCrc : Prop :=
  crc8 [0xAA#8] = 0xD1#8 ∧ crc8 [0xAA#8, 0x02#8] = 0xB5#8 ∧ crc8 [0xAA#8, 0x02#8, 0x20#8] = 0x2E#8 ∧
  [Config.reqFrame 0, Config.reqFrame 1, Config.reqFrame 2] = [0xAA#8, 0x02#8, 0x20#8] ∧
  Config.reqFrame 3 = crc8 [Config.reqFrame 0, Config.reqFrame 1, Config.reqFrame 2] ∧
  txframeWord = 0x2E2002AA#32 ∧ configWord = 0x04200D8C#32

/-- 40_crc.md R123: `crc.init`, its word, its effect on an idle block with everything else unchanged, its drop on a busy
one, and its malformed words. -/
def Obligations.CrcInitClearsTheAccumulator : Prop :=
  encode .crcInit = 0x00000100#32 ∧
  (∀ s : State, s.pend = .none → exec .crcInit s =
    .next { s with acc := 0x00#8, rejBusy := false, aborted := false, cc := .ok, cause := .none }) ∧
  (∀ s : State, s.pend ≠ .none → exec .crcInit s = .next { s with rejBusy := true }) ∧
  (∀ (s : State) (w : Word), s.pend = .none → w.extractLsb' 8 8 = 0x01#8 → w ≠ 0x00000100#32 →
    performEvent (.host (.write .word 0x000 w)) s =
      .next { s with rejBusy := false, aborted := false, cc := .illegalCmd, cause := .none })

/-- 40_crc.md R124: `crc.update b`, its word, its effect on an idle block with everything else unchanged, its drop on a
busy one, and its malformed words. -/
def Obligations.CrcUpdateTakesOneByte : Prop :=
  (∀ b : Byte, encode (.crcUpdate b) = 0x00000200#32 ||| b.setWidth 32) ∧
  (∀ (s : State) (b : Byte), s.pend = .none → exec (.crcUpdate b) s =
    .next { s with acc := crc8Step s.acc b, rejBusy := false, aborted := false, cc := .ok, cause := .none }) ∧
  (∀ (s : State) (b : Byte), s.pend ≠ .none → exec (.crcUpdate b) s = .next { s with rejBusy := true }) ∧
  (∀ (s : State) (w : Word), s.pend = .none → w.extractLsb' 8 8 = 0x02#8 → w.extractLsb' 16 16 ≠ 0#16 →
    performEvent (.host (.write .word 0x000 w)) s =
      .next { s with rejBusy := false, aborted := false, cc := .illegalCmd, cause := .none }) ∧
  (∀ (s t : State), s.pend = .none → exec (.crcUpdate s.acc) s = .next t → t.acc = 0x00#8)

/-- 40_crc.md R125: on an idle block `crc.init` and then one `crc.update` for each byte of a sequence leave the CRC-8 of
the sequence in the accumulator, whatever it held before. -/
def Obligations.CrcOfASequenceOfUpdates : Prop :=
  ∀ (s : State) (seq : List Byte), s.pend = .none →
    ∃ t, performEvents (commandEvent .crcInit :: seq.map fun b => commandEvent (.crcUpdate b)) s = .next t ∧
      t = { s with acc := crc8 seq, rejBusy := false, aborted := false, cc := .ok, cause := .none }

/-- 10_state.md R22: the accumulator is written only by `crc.init`, by `crc.update` and by reset. -/
def Obligations.AccumulatorWrittenOnlyByCrcCommands : Prop :=
  ∀ (e : Event) (s t : State), performEvent e s = .next t → t.acc ≠ s.acc →
    (e = .rst ∧ t.acc = 0x00#8) ∨
    (s.pend = .none ∧ e = .host (.write .word 0x000 0x00000100#32) ∧ t.acc = 0x00#8) ∨
    (s.pend = .none ∧ ∃ b : Byte, e = .host (.write .word 0x000 (0x00000200#32 ||| b.setWidth 32)) ∧
      t.acc = crc8Step s.acc b)

/-- 40_crc.md R126: the framer and the validator neither read nor write the accumulator: with another accumulator each
of their commands does the same to everything else. -/
def Obligations.FramerAndValidatorIgnoreTheAccumulator : Prop :=
  ∀ (s t : State) (a : Byte) (i : Instr), i ≠ .crcInit → (∀ b, i ≠ .crcUpdate b) → exec i s = .next t →
    t.acc = s.acc ∧ exec i { s with acc := a } = .next { t with acc := a }

/-! ### The commands of the framer (41_framer.md) -/

/-- 41_framer.md R143: `port.open`, its word, its effect on an idle block (the session is torn down and the attempt is
pending) with everything else unchanged, and its drop on a busy one. -/
def Obligations.PortOpenTearsDownAndWaits : Prop :=
  encode .portOpen = 0x00001000#32 ∧
  (∀ s : State, s.pend = .none → exec .portOpen s =
    .next { s with
      sess := .closed, fifo := [], ovf := false, lineErr := false, pend := .opening,
      rejBusy := false, aborted := false, cc := .ok, cause := .none }) ∧
  (∀ s : State, s.pend ≠ .none → exec .portOpen s = .next { s with rejBusy := true })

/-- 41_framer.md R147: `port.close`, its word, its effect in every state, busy or idle, with everything else unchanged,
and its idempotence. -/
def Obligations.PortCloseEndsWhateverIsPending : Prop :=
  encode .portClose = 0x00001100#32 ∧
  (∀ s : State, s.pend = .none → exec .portClose s =
    .next { s with
      sess := .closed, fifo := [], ovf := false, lineErr := false,
      rejBusy := false, aborted := false, cc := .ok, cause := .none }) ∧
  (∀ s : State, s.pend ≠ .none → (∀ m, s.pend ≠ .reading m) → exec .portClose s =
    .next { s with
      sess := .closed, fifo := [], ovf := false, lineErr := false, pend := .none,
      rejBusy := false, aborted := true, cc := .ok, cause := .none }) ∧
  (∀ (s : State) (m : Nat), s.pend = .reading m → exec .portClose s =
    .next { s with
      sess := .closed, fifo := [], ovf := false, lineErr := false, pend := .none, rxlen := 0,
      rejBusy := false, aborted := true, cc := .ok, cause := .none }) ∧
  (∀ s t : State, exec .portClose s = .next t → exec .portClose t = .next { t with aborted := false })

/-- 41_framer.md R148: `req.send`, its word, its three outcomes on an idle block with everything else unchanged, and its
drop on a busy one. -/
def Obligations.ReqSendStartsOrFaults : Prop :=
  encode .reqSend = 0x00001200#32 ∧
  (∀ s : State, s.pend = .none → s.sess = .opened → s.lineErr = false → exec .reqSend s =
    .next { s with pend := .sending 0, rejBusy := false, aborted := false, cc := .ok, cause := .none }) ∧
  (∀ s : State, s.pend = .none → s.sess = .closed → exec .reqSend s =
    .next { s with rejBusy := false, aborted := false, cc := .connFault, cause := .notOpen }) ∧
  (∀ s : State, s.pend = .none → s.sess = .opened → s.lineErr = true → exec .reqSend s =
    .next { s with
      sess := .closed, fifo := [], ovf := false, lineErr := false,
      rejBusy := false, aborted := false, cc := .connFault, cause := .writeFailed }) ∧
  (∀ s : State, s.pend ≠ .none → exec .reqSend s = .next { s with rejBusy := true })

/-- 41_framer.md R151: `resp.read n`, its word, its three outcomes on an idle block with everything else unchanged, and
its drop on a busy one. -/
def Obligations.RespReadStartsOrFaults : Prop :=
  ∀ n : Nat, 1 ≤ n → n ≤ 256 →
    encode (.respRead n) = 0x00001300#32 ||| BitVec.ofNat 32 (n - 1) ∧
    (∀ s : State, s.pend = .none → s.sess = .opened → s.lineErr = false → exec (.respRead n) s =
      .next { s with pend := .reading n, rejBusy := false, aborted := false, cc := .ok, cause := .none }) ∧
    (∀ s : State, s.pend = .none → s.sess = .closed → exec (.respRead n) s =
      .next { s with rxlen := 0, rejBusy := false, aborted := false, cc := .connFault, cause := .notOpen }) ∧
    (∀ s : State, s.pend = .none → s.sess = .opened → s.lineErr = true → exec (.respRead n) s =
      .next { s with
        rxlen := 0, sess := .closed, fifo := [], ovf := false, lineErr := false,
        rejBusy := false, aborted := false, cc := .connFault, cause := .readFailed }) ∧
    (∀ s : State, s.pend ≠ .none → exec (.respRead n) s = .next { s with rejBusy := true })

/-! ### The events of the line and of the sequencer (41_framer.md) -/

/-- 41_framer.md R144, R145, R146: the three events that move and end an open attempt, with everything else unchanged;
each can happen in its stage only. -/
def Obligations.OpenAttemptEvents : Prop :=
  (∀ s : State, s.pend = .opening →
    performEvent .openOk s = .next { s with sess := .opened, pend := .settling }) ∧
  (∀ s : State, s.pend = .opening →
    performEvent .openFail s = .next { s with pend := .none, cc := .connFault, cause := .openFailed }) ∧
  (∀ s : State, s.pend = .settling →
    performEvent .settleDone s = .next { s with pend := .none, cc := .ok, cause := .none }) ∧
  (∀ s t : State, s.pend ≠ .opening → performEvent .openOk s ≠ .next t ∧ performEvent .openFail s ≠ .next t) ∧
  (∀ s t : State, s.pend ≠ .settling → performEvent .settleDone s ≠ .next t)

/-- 41_framer.md R149, R150: the bytes `AA 02 20 2E` leave one per `EV_TX` and the fourth completes the command; a write
timeout at any progress is a connection fault that closes the session and keeps the bytes already sent. Neither can
happen while no send is pending. -/
def Obligations.TransmissionEvents : Prop :=
  (∀ s : State, s.pend = .sending 0 →
    performEvent .tx s = .next { s with txlog := s.txlog ++ [0xAA#8], pend := .sending 1 }) ∧
  (∀ s : State, s.pend = .sending 1 →
    performEvent .tx s = .next { s with txlog := s.txlog ++ [0x02#8], pend := .sending 2 }) ∧
  (∀ s : State, s.pend = .sending 2 →
    performEvent .tx s = .next { s with txlog := s.txlog ++ [0x20#8], pend := .sending 3 }) ∧
  (∀ s : State, s.pend = .sending 3 →
    performEvent .tx s =
      .next { s with txlog := s.txlog ++ [0x2E#8], pend := .none, cc := .ok, cause := .none }) ∧
  (∀ (s : State) (k : Fin 4), s.pend = .sending k →
    performEvent .wrTimeout s =
      .next { s with
        sess := .closed, fifo := [], ovf := false, lineErr := false,
        pend := .none, cc := .connFault, cause := .writeFailed }) ∧
  (∀ s t : State, (∀ k, s.pend ≠ .sending k) → performEvent .tx s ≠ .next t ∧ performEvent .wrTimeout s ≠ .next t)

/-- 41_framer.md R152: `EV_RD_DONE` delivers the first `min(len(fifo), m)` bytes of the FIFO to the buffer in order, keeps
every other byte of the buffer, leaves the rest queued and completes the read; everything else is unchanged. It cannot
happen without a pending read or without a byte. -/
def Obligations.ReadDoneDeliversInOrder : Prop :=
  (∀ (s : State) (m : Nat), s.pend = .reading m → 1 ≤ s.fifo.length →
    ∃ t, performEvent .rdDone s = .next t ∧
      (∀ i, t.rxbuf.read i = if i < min s.fifo.length m then s.fifo[i]? else s.rxbuf.read i) ∧
      t = { s with
        rxbuf := t.rxbuf, fifo := s.fifo.drop (min s.fifo.length m), rxlen := min s.fifo.length m,
        pend := .none, cc := .ok, cause := .none }) ∧
  (∀ s t : State, (∀ m, s.pend ≠ .reading m) ∨ s.fifo = [] → performEvent .rdDone s ≠ .next t)

/-- 41_framer.md R153: a read that times out with an empty FIFO completes with no bytes and no fault, the buffer and all
else unchanged; the timeout cannot happen without a pending read or with a byte queued. -/
def Obligations.ReadTimeoutReturnsNothing : Prop :=
  (∀ (s : State) (m : Nat), s.pend = .reading m → s.fifo = [] →
    performEvent .rdTimeout s = .next { s with rxlen := 0, pend := .none, cc := .ok, cause := .none }) ∧
  (∀ s t : State, (∀ m, s.pend ≠ .reading m) ∨ s.fifo ≠ [] → performEvent .rdTimeout s ≠ .next t)

/-- 41_framer.md R154: a received byte enters the FIFO of an open session if there is room, sets `ovf` if there is none,
and is lost on a closed session. -/
def Obligations.ReceivedByteIsQueuedOrLost : Prop :=
  ∀ (s : State) (b : Byte),
    (s.sess = .opened → s.fifo.length < s.params.rxFifoDepth →
      performEvent (.rx b) s = .next { s with fifo := s.fifo ++ [b] }) ∧
    (s.sess = .opened → s.params.rxFifoDepth ≤ s.fifo.length →
      performEvent (.rx b) s = .next { s with ovf := true }) ∧
    (s.sess = .closed → performEvent (.rx b) s = .next s)

/-- 41_framer.md R155: a line fault ends a pending send or read as a connection fault, and is otherwise recorded. -/
def Obligations.LineFaultIsReportedOrRecorded : Prop :=
  (∀ (s : State) (k : Fin 4), s.sess = .opened → s.pend = .sending k →
    performEvent .lineFault s =
      .next { s with
        sess := .closed, fifo := [], ovf := false, lineErr := false,
        pend := .none, cc := .connFault, cause := .writeFailed }) ∧
  (∀ (s : State) (m : Nat), s.sess = .opened → s.pend = .reading m →
    performEvent .lineFault s =
      .next { s with
        rxlen := 0, sess := .closed, fifo := [], ovf := false, lineErr := false,
        pend := .none, cc := .connFault, cause := .readFailed }) ∧
  (∀ s : State, s.sess = .opened → (s.pend = .none ∨ s.pend = .settling) →
    performEvent .lineFault s = .next { s with lineErr := true }) ∧
  (∀ (s t : State), s.sess = .closed → performEvent .lineFault s ≠ .next t)

/-- 41_framer.md R140: a closed session opens only at `EV_OPEN_OK`; an open one closes only at an accepted `OPEN`, at a
`CLOSE`, at a connection fault of a line command, or at reset. -/
def Obligations.SessionOpensOnlyAtOpenOk : Prop :=
  ∀ (e : Event) (s t : State), performEvent e s = .next t →
    (s.sess = .closed → t.sess = .opened → e = .openOk ∧ s.pend = .opening ∧ t.pend = .settling) ∧
    (s.sess = .opened → t.sess = .closed →
      e = .rst ∨ (e = .host (.write .word 0x000 0x00001000#32) ∧ s.pend = .none) ∨
      e = .host (.write .word 0x000 0x00001100#32) ∨
      (t.cc = .connFault ∧ t.pend = .none ∧ (t.cause = .writeFailed ∨ t.cause = .readFailed)))

/-- 41_framer.md R157, R149: from an open idle session, `req.send` and then `k` of its transmit events, with bytes received
between them in any order, send the first `k` bytes of `AA 02 20 2E`; after the fourth the command has completed. -/
def Obligations.RequestFrameIsSentInOrder : Prop :=
  ∀ (s : State) (es : List Event), s.pend = .none → s.sess = .opened → s.lineErr = false →
    (∀ e ∈ es, e = .tx ∨ ∃ b, e = .rx b) → es.count .tx ≤ 4 →
    ∃ t, performEvents (commandEvent .reqSend :: es) s = .next t ∧
      t.txlog = s.txlog ++ [0xAA#8, 0x02#8, 0x20#8, 0x2E#8].take (es.count .tx) ∧
      (t.pend = .none ↔ es.count .tx = 4) ∧ t.cc = .ok ∧ t.cause = .none ∧ t.sess = .opened

/-- 10_state.md R33: what has been transmitted only grows, by the next byte of the request frame at each transmit event;
a reset does not change it. -/
def Obligations.TransmitLogGrowsByFrameBytesOnly : Prop :=
  ∀ (e : Event) (s t : State), performEvent e s = .next t →
    (e ≠ .tx → t.txlog = s.txlog) ∧
    (e = .tx → ∃ k, s.pend = .sending k ∧ t.txlog = s.txlog ++ [Config.reqFrame k])

/-- 70_reset_and_hazards.md R236: if a 13-byte response stands at the head of the FIFO when a `resp.read 256` is accepted on
an open session, and nothing but received bytes comes before the read completes, then the buffer starts with it. -/
def Obligations.ArrivedResponseIsReadWhole : Prop :=
  ∀ (s : State) (p q bs : List Byte), s.pend = .none → s.sess = .opened → s.lineErr = false →
    s.fifo = p ++ q → p.length = 13 →
    ∃ t, performEvents (commandEvent (.respRead 256) :: (bs.map .rx ++ [.rdDone])) s = .next t ∧
      t.pend = .none ∧ t.cc = .ok ∧ 13 ≤ t.rxlen ∧ ∀ i, i < 13 → t.rxbuf.read i = p[i]?

/-- 41_framer.md R158, 70_reset_and_hazards.md R237: the FIFO grows at its end by a received byte, loses bytes at its head
by a completed read, and is emptied only by `OPEN`, `CLOSE`, a connection fault of a line command, or reset. -/
def Obligations.FifoIsAStreamWithoutResynchronisation : Prop :=
  ∀ (e : Event) (s t : State), performEvent e s = .next t →
    t.fifo = s.fifo ∨
    (∃ b, e = .rx b ∧ s.sess = .opened ∧ t.fifo = s.fifo ++ [b]) ∨
    (e = .rdDone ∧ ∃ m, s.pend = .reading m ∧ t.rxlen = min s.fifo.length m ∧ t.fifo = s.fifo.drop t.rxlen) ∨
    (t.fifo = [] ∧
      (e = .rst ∨ (e = .host (.write .word 0x000 0x00001000#32) ∧ s.pend = .none) ∨
        e = .host (.write .word 0x000 0x00001100#32) ∨ (t.cc = .connFault ∧ t.sess = .closed)))

/-- 20_memory.md R69, 10_state.md R30: the response buffer and its length change only in the step that completes, fails or
discards a `READ_RESPONSE` (or at reset), and the buffer itself only when bytes are delivered (or at reset). -/
def Obligations.ResponseChangesOnlyWhenAReadEnds : Prop :=
  ∀ (e : Event) (s t : State), performEvent e s = .next t →
    (t.rxbuf ≠ s.rxbuf → e = .rst ∨ e = .rdDone) ∧
    (t.rxbuf ≠ s.rxbuf ∨ t.rxlen ≠ s.rxlen →
      e = .rst ∨ (∃ m, s.pend = .reading m ∧ t.pend = .none) ∨
      (s.pend = .none ∧ t.pend = .none ∧ t.cc = .connFault ∧ t.rxlen = 0 ∧
        ∃ arg : Byte, e = .host (.write .word 0x000 (0x00001300#32 ||| arg.setWidth 32))))

/-! ### The packet validator (42_validator.md) -/

/-- 42_validator.md R182: with fewer than 13 bytes the outcome is `TOO_SHORT` with zero diagnostics, whatever the buffer
holds; everything else is unchanged. On a busy block the command is dropped. -/
def Obligations.ShortResponseIsTooShort : Prop :=
  (∀ s : State, s.pend = .none → s.rxlen < 13 → exec .pktValidate s =
    .next { s with
      vcode := .tooShort, vrx := 0#8, vcalc := 0#8, vobs := 0#8,
      rejBusy := false, aborted := false, cc := .ok, cause := .none }) ∧
  (∀ s : State, s.pend ≠ .none → exec .pktValidate s = .next { s with rejBusy := true })

/-- 42_validator.md R183 to R186, R188: a response of at least 13 bytes with packet bytes `p` is judged by the CRC, then the
marker, then the count, the first failing rule deciding, and on success the big-endian reading times 100 is stored;
everything else is unchanged. -/
def Obligations.PacketIsJudgedByTheRulesInOrder : Prop :=
  ∀ (s : State) (p : Nat → Byte), s.pend = .none → 13 ≤ s.rxlen →
    (∀ i, i < 13 → s.rxbuf.read i = some (p i)) →
    ∃ c, c = crc8 [p 0, p 1, p 2, p 3, p 4, p 5, p 6, p 7, p 8, p 9, p 10, p 11] ∧
    exec .pktValidate s =
      .next (if c ≠ p 12 then
          { s with
            vcode := .checksumMismatch, vrx := p 12, vcalc := c, vobs := 0#8,
            rejBusy := false, aborted := false, cc := .ok, cause := .none }
        else if p 2 ≠ 0x20#8 then
          { s with
            vcode := .unexpectedMarker, vrx := p 12, vcalc := c, vobs := p 2,
            rejBusy := false, aborted := false, cc := .ok, cause := .none }
        else if p 3 ≠ 0x04#8 then
          { s with
            vcode := .unexpectedSensorCount, vrx := p 12, vcalc := c, vobs := p 3,
            rejBusy := false, aborted := false, cc := .ok, cause := .none }
        else
          { s with
            vcode := .ok, vrx := p 12, vcalc := c, vobs := 0#8,
            reading := BitVec.ofNat 32 (((p 4).toNat * 256 + (p 5).toNat) * 100), rvalid := true,
            rejBusy := false, aborted := false, cc := .ok, cause := .none })

/-- 42_validator.md R189: a packet with the marker, the count and its own CRC is accepted, and its reading is exactly the
big-endian value of bytes 4 and 5 times 100, with no overflow, whatever its other bytes are. -/
def Obligations.WellFormedPacketGivesItsReading : Prop :=
  ∀ (s : State) (p : Nat → Byte), s.pend = .none → 13 ≤ s.rxlen →
    (∀ i, i < 13 → s.rxbuf.read i = some (p i)) → p 2 = 0x20#8 → p 3 = 0x04#8 →
    p 12 = crc8 ((List.range 12).map p) →
    ∃ t, exec .pktValidate s = .next t ∧ t.vcode = .ok ∧ t.rvalid = true ∧ t.cc = .ok ∧
      t.reading.toNat = ((p 4).toNat * 256 + (p 5).toNat) * 100

/-- 42_validator.md R189: if exactly one byte of a packet that carries its own CRC is changed, be it the trailing byte or
any other, the outcome is `CHECKSUM_MISMATCH` and the last reading is kept. -/
def Obligations.OneCorruptedByteIsDetected : Prop :=
  ∀ (s : State) (p : Nat → Byte) (i : Nat) (b : Byte), s.pend = .none → 13 ≤ s.rxlen →
    p 12 = crc8 ((List.range 12).map p) → i < 13 → b ≠ p i →
    (∀ j, j < 13 → s.rxbuf.read j = some (if j = i then b else p j)) →
    ∃ t, exec .pktValidate s = .next t ∧ t.vcode = .checksumMismatch ∧
      t.vrx = (if i = 12 then b else p 12) ∧ (i = 12 → t.vcalc = p 12) ∧
      t.reading = s.reading ∧ t.rvalid = s.rvalid

/-- 42_validator.md R189, R180: the outcome depends only on whether 13 bytes arrived and on the 13 packet bytes: not on the
session, the accumulator, the FIFO or the bytes behind the packet. -/
def Obligations.ValidationReadsThePacketOnly : Prop :=
  ∀ s u s' u' : State, s.pend = .none → u.pend = .none → (s.rxlen < 13 ↔ u.rxlen < 13) →
    (13 ≤ s.rxlen → ∀ i, i < 13 → s.rxbuf.read i = u.rxbuf.read i) →
    exec .pktValidate s = .next s' → exec .pktValidate u = .next u' →
    s'.vcode = u'.vcode ∧ s'.vrx = u'.vrx ∧ s'.vcalc = u'.vcalc ∧ s'.vobs = u'.vobs ∧
    (s'.vcode = .ok → s'.reading = u'.reading ∧ s'.rvalid = u'.rvalid)

/-- 10_state.md R28, R29, 42_validator.md R186: the result registers are written only by `pkt.validate` and reset; the
reading and `rvalid` only by a `pkt.validate` whose packet passed the length, CRC, marker and count checks, and reset. -/
def Obligations.ReadingComesOnlyFromACheckedPacket : Prop :=
  ∀ (e : Event) (s t : State), performEvent e s = .next t →
    ((t.vcode, t.vrx, t.vcalc, t.vobs, t.reading, t.rvalid) ≠ (s.vcode, s.vrx, s.vcalc, s.vobs, s.reading, s.rvalid) →
      e = .rst ∨ (e = .host (.write .word 0x000 0x00002000#32) ∧ s.pend = .none)) ∧
    (t.reading ≠ s.reading ∨ t.rvalid ≠ s.rvalid →
      e = .rst ∨ (13 ≤ s.rxlen ∧ crc8 s.checkedBytes = s.packetByte 12 ∧ s.packetByte 2 = 0x20#8 ∧
        s.packetByte 3 = 0x04#8 ∧ t.vcode = .ok ∧ t.rvalid = true))

/-! ### The register port (10_state.md section 4, 20_memory.md) -/

/-- 10_state.md R37: every bit of `STATUS` with the codes of 60_exceptions.md R201 and R202, its reset value, that it does
not show `line_err`, and that reading it changes nothing in the block (what the host has read is a field of the model,
log 8). The reserved codes never show (93_implementation_defined.md U3 to U5). -/
def Obligations.StatusShowsTheFlagsAndCodes : Prop :=
  State.reset.statusWord = 0x00000000#32 ∧
  ∀ s : State,
    performEvent (.host (.read .word 0x004)) s = .next { s with readData := s.statusWord } ∧
    (∀ b, ({ s with lineErr := b } : State).statusWord = s.statusWord) ∧
    (s.statusWord.getLsbD 0 = true ↔ s.pend ≠ .none) ∧
    (s.statusWord.getLsbD 1 = true ↔ s.sess = .opened) ∧
    s.statusWord.getLsbD 2 = s.rejBusy ∧ s.statusWord.getLsbD 3 = s.aborted ∧
    s.statusWord.getLsbD 4 = s.rvalid ∧ s.statusWord.getLsbD 5 = s.ovf ∧
    s.statusWord.extractLsb' 6 2 = 0#2 ∧ s.statusWord.extractLsb' 11 1 = 0#1 ∧
    s.statusWord.extractLsb' 15 17 = 0#17 ∧
    (s.statusWord.extractLsb' 8 3 = 0#3 ↔ s.cc = .ok) ∧
    (s.statusWord.extractLsb' 8 3 = 1#3 ↔ s.cc = .connFault) ∧
    (s.statusWord.extractLsb' 8 3 = 2#3 ↔ s.cc = .illegalCmd) ∧
    (s.statusWord.extractLsb' 12 3 = 0#3 ↔ s.cause = .none) ∧
    (s.statusWord.extractLsb' 12 3 = 1#3 ↔ s.cause = .openFailed) ∧
    (s.statusWord.extractLsb' 12 3 = 2#3 ↔ s.cause = .writeFailed) ∧
    (s.statusWord.extractLsb' 12 3 = 3#3 ↔ s.cause = .readFailed) ∧
    (s.statusWord.extractLsb' 12 3 = 4#3 ↔ s.cause = .notOpen) ∧
    (s.statusWord.extractLsb' 8 3).toNat ≤ 2 ∧ (s.statusWord.extractLsb' 12 3).toNat ≤ 4 ∧
    (s.vresultWord.extractLsb' 0 3).toNat ≤ 5

/-- 20_memory.md R61: what a read of each register and of the reserved offsets returns; the read changes nothing but
what the host has read. The two counts are in their ranges (10_state.md R30, R44). -/
def Obligations.RegisterReadsReturnTheState : Prop :=
  ∀ s : State, s.rxlen ≤ 256 → s.fifo.length ≤ 65535 →
    performEvent (.host (.read .word 0x000)) s = .next { s with readData := 0x00000000#32 } ∧
    performEvent (.host (.read .word 0x004)) s = .next { s with readData := s.statusWord } ∧
    performEvent (.host (.read .word 0x008)) s = .next { s with readData := s.acc.setWidth 32 } ∧
    performEvent (.host (.read .word 0x00C)) s = .next { s with readData := BitVec.ofNat 32 s.rxlen } ∧
    performEvent (.host (.read .word 0x010)) s =
      .next { s with
        readData := s.vobs.setWidth 32 <<< 24 ||| s.vcalc.setWidth 32 <<< 16 ||| s.vrx.setWidth 32 <<< 8 |||
          s.vcode.code.setWidth 32 } ∧
    performEvent (.host (.read .word 0x014)) s = .next { s with readData := s.reading } ∧
    performEvent (.host (.read .word 0x018)) s = .next { s with readData := 0x2E2002AA#32 } ∧
    performEvent (.host (.read .word 0x01C)) s = .next { s with readData := 0x04200D8C#32 } ∧
    performEvent (.host (.read .word 0x020)) s = .next { s with readData := BitVec.ofNat 32 s.fifo.length } ∧
    (∀ off, off % 4 = 0 → 0x024 ≤ off → off ≤ 0x0FC →
      performEvent (.host (.read .word off)) s = .next { s with readData := 0x00000000#32 })

/-- 10_state.md R45: the word at `0x100 + 4k` shows the four bytes in little-endian lanes if all are written; if one is
`UNWRITTEN` the value read is a free one (93_implementation_defined.md U1, log 4); in both cases only the model's own
fields change. -/
def Obligations.RxbufWindowShowsTheBuffer : Prop :=
  ∀ (s : State) (k : Nat), k < 64 →
    (∀ b0 b1 b2 b3 : Byte, s.rxbuf.read (4 * k) = some b0 → s.rxbuf.read (4 * k + 1) = some b1 →
      s.rxbuf.read (4 * k + 2) = some b2 → s.rxbuf.read (4 * k + 3) = some b3 →
      performEvent (.host (.read .word (0x100 + 4 * k))) s =
        .next { s with
          readData := b3.setWidth 32 <<< 24 ||| b2.setWidth 32 <<< 16 ||| b1.setWidth 32 <<< 8 ||| b0.setWidth 32 }) ∧
    (∀ i, i < 4 → s.rxbuf.read (4 * k + i) = none →
      performEvent (.host (.read .word (0x100 + 4 * k))) s =
        .next { s with readData := Config.unspecifiedWord s.fresh, fresh := s.fresh + 1 })

/-- 20_memory.md R61, R62: a read of any aligned offset changes no state of the block, and a write to any aligned offset
but `CMD`'s is ignored. -/
def Obligations.ReadsAndIgnoredWritesChangeNothing : Prop :=
  ∀ (s : State) (off : Nat), off % 4 = 0 → off < 0x200 →
    (∃ v n, performEvent (.host (.read .word off)) s = .next { s with readData := v, fresh := n }) ∧
    (off ≠ 0x000 → ∀ v, performEvent (.host (.write .word off v)) s = .next s)

/-- 20_memory.md R63, R64: an access of another width, at an offset that is not a multiple of 4, or at `0x200` and above
is refused: there is no step. -/
def Obligations.OtherAccessesAreRefused : Prop :=
  ∀ (s : State) (width : AccessWidth) (off : Nat) (v : Word),
    (width ≠ .word ∨ off % 4 ≠ 0 ∨ 0x200 ≤ off) →
    (∃ r, performEvent (.host (.read width off)) s = .refused r) ∧
    (∃ r, performEvent (.host (.write width off v)) s = .refused r)

/-! ### Reporting and reset (60_exceptions.md, 70_reset_and_hazards.md) -/

/-- 60_exceptions.md R208: once a command has completed, `cc` and `cause` keep their values until the next accepted command
(or a reset). -/
def Obligations.OutcomeIsKeptUntilTheNextCommand : Prop :=
  ∀ (e : Event) (s t : State), s.pend = .none → performEvent e s = .next t →
    (∀ w, e ≠ .host (.write .word 0x000 w)) → e ≠ .rst → t.cc = s.cc ∧ t.cause = s.cause ∧ t.pend = .none

/-- 60_exceptions.md R206: where `EV_RD_DONE` and `EV_LINE_FAULT` are enabled together, either may happen first, and the
outcome is that of the first: the data and a recorded fault, or a connection fault after which no read can complete. -/
def Obligations.FirstOfTwoEnabledEventsDecides : Prop :=
  ∀ (s : State) (m : Nat), s.sess = .opened → s.pend = .reading m → 1 ≤ s.fifo.length →
    (∃ t, performEvents [.rdDone, .lineFault] s = .next t ∧
      t.cc = .ok ∧ t.rxlen = min s.fifo.length m ∧ t.sess = .opened ∧ t.lineErr = true) ∧
    (∃ t, performEvents [.lineFault] s = .next t ∧
      t.cc = .connFault ∧ t.cause = .readFailed ∧ t.rxlen = 0 ∧ t.sess = .closed ∧
      ∀ u, performEvent .rdDone t ≠ .next u)

/-- 70_reset_and_hazards.md R230: a reset at any time sets every field of the block to its reset value, every byte of the
response buffer `UNWRITTEN`, and leaves `txlog` as it was. -/
def Obligations.ResetSetsEveryField : Prop :=
  ∀ s : State, ∃ t, performEvent .rst s = .next t ∧
    t.acc = 0x00#8 ∧ t.sess = .closed ∧ t.pend = .none ∧ t.cc = .ok ∧ t.cause = .none ∧
    t.rejBusy = false ∧ t.aborted = false ∧ t.rvalid = false ∧ t.ovf = false ∧ t.lineErr = false ∧
    t.reading = 0x00000000#32 ∧ t.vcode = .none ∧ t.vrx = 0#8 ∧ t.vcalc = 0#8 ∧ t.vobs = 0#8 ∧
    t.rxlen = 0 ∧ t.fifo = [] ∧ (∀ i, t.rxbuf.read i = none) ∧ t.txlog = s.txlog

/-- 70_reset_and_hazards.md R231: on an idle block `CLOSE` and then `CRC_INIT` return the framer and the accumulator to
their reset values but leave the reading, the validation result and the response as they were. -/
def Obligations.CloseThenCrcInitIsNotAReset : Prop :=
  ∀ s : State, s.pend = .none →
    performEvents [commandEvent .portClose, commandEvent .crcInit] s =
      .next { State.reset with
        reading := s.reading, rvalid := s.rvalid, vcode := s.vcode, vrx := s.vrx, vcalc := s.vcalc, vobs := s.vobs,
        rxbuf := s.rxbuf, rxlen := s.rxlen, txlog := s.txlog, params := s.params, readData := s.readData,
        script := s.script, fresh := s.fresh }

/-! ### The whole machine -/

/-- 10_state.md R49, 41_framer.md R142: the state after reset has the invariant of the machine. -/
def Obligations.ResetStateHasTheInvariant : Prop := Inv State.reset

/-- 41_framer.md R142, with the ranges and the reporting of 10_state.md: every step from any state with the invariant
leads to a state with the invariant. -/
def Obligations.EveryStepKeepsTheInvariant : Prop :=
  ∀ s t : State, Inv s → step s = .next t → Inv t

/-- 41_framer.md R142: in every reachable state, whatever the instance's parameters and the agents' choices, a closed
session has an empty FIFO and no flag of the line, a settling, sending or reading block has an open session, and an
opening one a closed session. -/
def Obligations.ReachableStatesKeepTheSessionRules : Prop :=
  ∀ s : State, Reachable s →
    (s.sess = .closed → s.fifo = [] ∧ s.ovf = false ∧ s.lineErr = false) ∧
    (s.pend = .settling ∨ (∃ k, s.pend = .sending k) ∨ (∃ m, s.pend = .reading m) → s.sess = .opened) ∧
    (s.pend = .opening → s.sess = .closed)

/-- 93_implementation_defined.md U1, 42_validator.md R182: in every reachable state a validation that looks at the packet
finds all its 13 bytes written, so that no free value enters its outcome. -/
def Obligations.ValidationNeverReadsAnUnwrittenByte : Prop :=
  ∀ s : State, Reachable s → 13 ≤ s.rxlen → ∀ i, i < 13 → s.rxbuf.read i = some (s.packetByte i)

/-- 41_framer.md R156: in every run that is fair to the pending command, every pending command ends. Fairness is a premise,
as in R156 (log 11); an event of the run that cannot happen where it stands leaves the state as it is (log 2). -/
def Obligations.FairRunsEndEveryPendingCommand : Prop :=
  ∀ (schedule : Nat → Event) (s : State), FairSchedule schedule s →
    ∀ n, ∃ m, n ≤ m ∧ (scheduled schedule s m).pend = .none

/-- 41_framer.md R142: every step from any state in which the session, the FIFO, the flags of the line and the pending
command agree leads to a state in which they agree; nothing else is asked of the state. -/
def Obligations.EveryStepKeepsTheSessionRules : Prop :=
  ∀ s t : State, SessionInvariant s → step s = .next t → SessionInvariant t
end

