-- ==== Sys2Proof/Laws/Decode.lean ====
section
/-! SUPPORT. What the decoder can answer, said once. -/

namespace Sys2Proof

theorem decodeNoArg_command {i j : Instr} {arg : Byte} (h : decodeNoArg i arg = .command j) : arg = 0#8 ∧ j = i := by
  simp only [decodeNoArg] at h
  split at h
  · cases h
    exact ⟨by assumption, rfl⟩
  · cases h

/-- The words the decoder reads a command from, by opcode (30_encoding.md R93). -/
theorem decodeOp_command {op arg : Byte} {i : Instr} (h : decodeOp op arg = .command i) :
    (op = 0x01#8 ∧ arg = 0#8 ∧ i = .crcInit) ∨ (op = 0x02#8 ∧ i = .crcUpdate arg) ∨
    (op = 0x10#8 ∧ arg = 0#8 ∧ i = .portOpen) ∨ (op = 0x11#8 ∧ arg = 0#8 ∧ i = .portClose) ∨
    (op = 0x12#8 ∧ arg = 0#8 ∧ i = .reqSend) ∨ (op = 0x13#8 ∧ i = .respRead (maxLenOfArg arg)) ∨
    (op = 0x20#8 ∧ arg = 0#8 ∧ i = .pktValidate) := by
  simp only [decodeOp] at h
  repeat' split at h
  all_goals first
    | (obtain ⟨ha, rfl⟩ := decodeNoArg_command h; simp [*])
    | (cases h; try simp [*])

/-- A word the decoder reads a command from has `RSV = 0`, and its opcode and operand give the command. -/
theorem decode_command {w : Word} {i : Instr} (h : decode w = .command i) :
    rsvField w = 0#16 ∧ decodeOp (opField w) (argField w) = .command i := by
  simp only [decode] at h
  split at h
  · exact ⟨by assumption, h⟩
  · cases h

/-- The fields of an assembled word are what it was assembled from (30_encoding.md R91). -/
@[simp] theorem rsvField_commandWord (op arg : Byte) : rsvField (commandWord op arg) = 0#16 := by
  refine BitVec.eq_of_getLsbD_eq fun i hi => ?_
  simp only [rsvField, commandWord, BitVec.getLsbD_extractLsb', BitVec.getLsbD_append]
  rw [if_neg (by omega), if_neg (by omega)]
  simp

@[simp] theorem opField_commandWord (op arg : Byte) : opField (commandWord op arg) = op := by
  refine BitVec.eq_of_getLsbD_eq fun i hi => ?_
  simp only [opField, commandWord, BitVec.getLsbD_extractLsb', BitVec.getLsbD_append]
  rw [if_neg (by omega), if_pos (by omega), show 8 + i - 8 = i by omega]
  simp [hi]

@[simp] theorem argField_commandWord (op arg : Byte) : argField (commandWord op arg) = arg := by
  refine BitVec.eq_of_getLsbD_eq fun i hi => ?_
  simp only [argField, commandWord, BitVec.getLsbD_extractLsb', BitVec.getLsbD_append, Nat.zero_add]
  rw [if_pos hi]
  simp [hi]

/-- A word is assembled from its fields (30_encoding.md R91). -/
theorem commandWord_fields (w : Word) (h : rsvField w = 0#16) : commandWord (opField w) (argField w) = w := by
  rw [commandWord, ← h]
  refine BitVec.eq_of_getLsbD_eq fun i hi => ?_
  simp only [rsvField, opField, argField, BitVec.getLsbD_append, BitVec.getLsbD_extractLsb', Nat.zero_add]
  by_cases h1 : i < 8
  · rw [if_pos h1]
    simp [h1]
  · rw [if_neg h1]
    by_cases h2 : i - 8 < 8
    · rw [if_pos h2, show 8 + (i - 8) = i by omega]
      simp [h2]
    · rw [if_neg h2, show 16 + (i - 8 - 8) = i by omega]
      simp [show i - 8 - 8 < 16 by omega]

/-- Legality in the terms of the fields (30_encoding.md R94). -/
theorem legal_eq (w : Word) :
    legal w = (rsvField w == 0#16 &&
      ([0x02#8, 0x13#8].contains (opField w) ||
        ([0x01#8, 0x10#8, 0x11#8, 0x12#8, 0x20#8].contains (opField w) && argField w == 0#8))) := rfl

end Sys2Proof
end

