-- ==== Sys2Proof/Laws/Memory.lean ====
section
/-! SUPPORT. The laws of the response buffer: a read after a write, and the canonical form that every write keeps. -/

namespace Sys2Proof.Machine

@[simp] theorem Memory.read_nil (a : Nat) : Memory.read [] a = none := rfl

theorem Memory.read_cons (c : Host.Cell) (m : Memory) (a : Nat) :
    Memory.read (c :: m) a = if c.1 = a then some c.2 else Memory.read m a := rfl

@[simp] theorem Memory.read_write_same (m : Memory) (a : Nat) (b : Byte) : (m.write a b).read a = some b := by
  induction m with
  | nil => simp [Memory.write, Memory.read]
  | cons c m ih =>
    obtain ⟨k, v⟩ := c
    simp only [Memory.write]
    split
    · simp [Memory.read]
    · split
      · simp [Memory.read]
      · rename_i h
        simp [Memory.read, Ne.symm h, ih]

theorem Memory.read_write_other (m : Memory) {a a' : Nat} (b : Byte) (h : a' ≠ a) :
    (m.write a b).read a' = m.read a' := by
  induction m with
  | nil => simp [Memory.write, Memory.read, Ne.symm h, Memory.unlisted]
  | cons c m ih =>
    obtain ⟨k, v⟩ := c
    simp only [Memory.write]
    split
    · simp [Memory.read, Ne.symm h]
    · split
      · rename_i e
        subst e
        simp [Memory.read, Ne.symm h]
      · simp [Memory.read, ih]

/-- What a block of written bytes reads as: the bytes from `a` on, the rest as before (41_framer.md R152). -/
theorem Memory.read_writeBytes (m : Memory) (a : Nat) (bs : List Byte) (j : Nat) :
    (m.writeBytes a bs).read j = if a ≤ j ∧ j < a + bs.length then bs[j - a]? else m.read j := by
  induction bs generalizing m a with
  | nil => simp [Memory.writeBytes]
  | cons b bs ih =>
    simp only [Memory.writeBytes, ih, List.length_cons]
    rcases Nat.lt_trichotomy j a with h | h | h
    · rw [if_neg (by omega), if_neg (by omega), Memory.read_write_other _ _ (by omega)]
    · subst h
      simp
    · rw [Memory.read_write_other _ _ (by omega)]
      have e : j - a = (j - (a + 1)) + 1 := by omega
      by_cases l : j < a + 1 + bs.length
      · rw [if_pos (by omega), if_pos (by omega), e, List.getElem?_cons_succ]
      · rw [if_neg (by omega), if_neg (by omega)]

theorem Memory.risingAbove_mono {lo lo' : Nat} (m : Memory) (h : lo' ≤ lo) (r : m.risingAbove lo = true) :
    m.risingAbove lo' = true := by
  cases m with
  | nil => rfl
  | cons c m =>
    simp only [Memory.risingAbove, Bool.and_eq_true, decide_eq_true_eq] at r ⊢
    exact ⟨by omega, r.2⟩

theorem Memory.risingAbove_write {lo : Nat} (m : Memory) {a : Nat} (b : Byte) (h : lo < a)
    (r : m.risingAbove lo = true) : (m.write a b).risingAbove lo = true := by
  induction m generalizing lo with
  | nil => simp [Memory.write, Memory.risingAbove, h]
  | cons c m ih =>
    obtain ⟨k, v⟩ := c
    simp only [Memory.risingAbove, Bool.and_eq_true, decide_eq_true_eq] at r
    simp only [Memory.write]
    split
    · simp only [Memory.risingAbove, Bool.and_eq_true, decide_eq_true_eq]
      exact ⟨h, by assumption, r.2⟩
    · split
      · rename_i e
        subst e
        simp only [Memory.risingAbove, Bool.and_eq_true, decide_eq_true_eq]
        exact r
      · simp only [Memory.risingAbove, Bool.and_eq_true, decide_eq_true_eq]
        exact ⟨r.1, ih (by omega) r.2⟩

theorem Memory.mem_write (m : Memory) {a : Nat} {b : Byte} {c : Host.Cell} (h : c ∈ m.write a b) :
    c = (a, b) ∨ c ∈ m := by
  induction m with
  | nil => simpa [Memory.write] using h
  | cons d m ih =>
    obtain ⟨k, v⟩ := d
    simp only [Memory.write] at h
    split at h
    · simpa using h
    · split at h
      · rcases List.mem_cons.mp h with e | e
        · exact .inl e
        · exact .inr (List.mem_cons_of_mem _ e)
      · rcases List.mem_cons.mp h with e | e
        · exact .inr (e ▸ List.mem_cons_self)
        · exact (ih e).imp_right (List.mem_cons_of_mem _)

/-- The canonical form, in the terms of its two parts. -/
theorem Memory.wf_iff (m : Memory) :
    m.wf = true ↔ (∀ k v rest, m = (k, v) :: rest → Memory.risingAbove k rest = true) ∧
      ∀ c ∈ m, c.1 < Config.rxbufSize := by
  cases m with
  | nil => simp [Memory.wf]
  | cons c m => obtain ⟨k, v⟩ := c; simp [Memory.wf]

/-- Writing a byte inside the buffer keeps the canonical form. -/
theorem Memory.wf_write (m : Memory) {a : Nat} (b : Byte) (ha : a < Config.rxbufSize) (h : m.wf = true) :
    (m.write a b).wf = true := by
  rw [Memory.wf_iff] at h ⊢
  refine ⟨?_, fun c hc => ?_⟩
  · intro k v rest e
    cases m with
    | nil =>
      simp only [Memory.write, List.cons.injEq, Prod.mk.injEq] at e
      rw [← e.2]
      rfl
    | cons c m =>
      obtain ⟨k', v'⟩ := c
      have r := h.1 k' v' m rfl
      simp only [Memory.write] at e
      split at e
      · simp only [List.cons.injEq, Prod.mk.injEq] at e
        obtain ⟨⟨rfl, -⟩, rfl⟩ := e
        simpa [Memory.risingAbove] using ⟨by assumption, r⟩
      · split at e
        · rename_i q
          simp only [List.cons.injEq, Prod.mk.injEq] at e
          obtain ⟨⟨rfl, -⟩, rfl⟩ := e
          exact q ▸ r
        · simp only [List.cons.injEq, Prod.mk.injEq] at e
          obtain ⟨⟨rfl, -⟩, rfl⟩ := e
          exact Memory.risingAbove_write m b (by omega) r
  · rcases Memory.mem_write m hc with e | e
    · exact e ▸ ha
    · exact h.2 c e

/-- Writing bytes inside the buffer keeps the canonical form. -/
theorem Memory.wf_writeBytes (m : Memory) (a : Nat) (bs : List Byte) (hl : a + bs.length ≤ Config.rxbufSize)
    (h : m.wf = true) : (m.writeBytes a bs).wf = true := by
  induction bs generalizing m a with
  | nil => exact h
  | cons b bs ih =>
    simp only [List.length_cons] at hl
    exact ih _ _ (by omega) (Memory.wf_write m b (by omega) h)

/-- An index at or below the lower bound of a rising list is `UNWRITTEN`. -/
theorem Memory.read_none_of_risingAbove {k : Nat} (m : Memory) (h : m.risingAbove k = true) {j : Nat} (hj : j ≤ k) :
    m.read j = none := by
  induction m generalizing k with
  | nil => rfl
  | cons c m ih =>
    obtain ⟨k', v⟩ := c
    simp only [Memory.risingAbove, Bool.and_eq_true, decide_eq_true_eq] at h
    rw [Memory.read_cons, if_neg (by simp only; omega)]
    exact ih h.2 (by omega)

/-- The bytes collected from written indices are those bytes, whatever the free values are. -/
theorem Memory.bytesFrom_eq (free : Nat → Byte) (m : Memory) (a n : Nat) (p : Nat → Byte)
    (h : ∀ i, i < n → m.read (a + i) = some (p i)) : m.bytesFrom free a n = (List.range n).map p := by
  refine List.map_congr_left fun i hi => ?_
  rw [h i (List.mem_range.mp hi)]
  rfl

end Sys2Proof.Machine
end

