-- ==== Sys2Proof/Laws/State.lean ====
section
/-! SUPPORT. One lemma per field of each update of the state, so that no later proof unfolds a record update. -/

namespace Sys2Proof.Machine

/-! ### `s.acc <- a` -/

@[simp] theorem State.setAcc_acc (s : State) (a : Byte) : (s.setAcc a).acc = a := rfl
@[simp] theorem State.setAcc_sess (s : State) (a : Byte) : (s.setAcc a).sess = s.sess := rfl
@[simp] theorem State.setAcc_pend (s : State) (a : Byte) : (s.setAcc a).pend = s.pend := rfl
@[simp] theorem State.setAcc_cc (s : State) (a : Byte) : (s.setAcc a).cc = s.cc := rfl
@[simp] theorem State.setAcc_cause (s : State) (a : Byte) : (s.setAcc a).cause = s.cause := rfl
@[simp] theorem State.setAcc_rejBusy (s : State) (a : Byte) : (s.setAcc a).rejBusy = s.rejBusy := rfl
@[simp] theorem State.setAcc_aborted (s : State) (a : Byte) : (s.setAcc a).aborted = s.aborted := rfl
@[simp] theorem State.setAcc_reading (s : State) (a : Byte) : (s.setAcc a).reading = s.reading := rfl
@[simp] theorem State.setAcc_rvalid (s : State) (a : Byte) : (s.setAcc a).rvalid = s.rvalid := rfl
@[simp] theorem State.setAcc_vcode (s : State) (a : Byte) : (s.setAcc a).vcode = s.vcode := rfl
@[simp] theorem State.setAcc_vrx (s : State) (a : Byte) : (s.setAcc a).vrx = s.vrx := rfl
@[simp] theorem State.setAcc_vcalc (s : State) (a : Byte) : (s.setAcc a).vcalc = s.vcalc := rfl
@[simp] theorem State.setAcc_vobs (s : State) (a : Byte) : (s.setAcc a).vobs = s.vobs := rfl
@[simp] theorem State.setAcc_rxbuf (s : State) (a : Byte) : (s.setAcc a).rxbuf = s.rxbuf := rfl
@[simp] theorem State.setAcc_rxlen (s : State) (a : Byte) : (s.setAcc a).rxlen = s.rxlen := rfl
@[simp] theorem State.setAcc_fifo (s : State) (a : Byte) : (s.setAcc a).fifo = s.fifo := rfl
@[simp] theorem State.setAcc_ovf (s : State) (a : Byte) : (s.setAcc a).ovf = s.ovf := rfl
@[simp] theorem State.setAcc_lineErr (s : State) (a : Byte) : (s.setAcc a).lineErr = s.lineErr := rfl
@[simp] theorem State.setAcc_txlog (s : State) (a : Byte) : (s.setAcc a).txlog = s.txlog := rfl
@[simp] theorem State.setAcc_params (s : State) (a : Byte) : (s.setAcc a).params = s.params := rfl
@[simp] theorem State.setAcc_readData (s : State) (a : Byte) : (s.setAcc a).readData = s.readData := rfl
@[simp] theorem State.setAcc_script (s : State) (a : Byte) : (s.setAcc a).script = s.script := rfl
@[simp] theorem State.setAcc_fresh (s : State) (a : Byte) : (s.setAcc a).fresh = s.fresh := rfl

/-! ### `s.sess <- OPEN` -/

@[simp] theorem State.openSession_acc (s : State) : s.openSession.acc = s.acc := rfl
@[simp] theorem State.openSession_sess (s : State) : s.openSession.sess = .opened := rfl
@[simp] theorem State.openSession_pend (s : State) : s.openSession.pend = s.pend := rfl
@[simp] theorem State.openSession_cc (s : State) : s.openSession.cc = s.cc := rfl
@[simp] theorem State.openSession_cause (s : State) : s.openSession.cause = s.cause := rfl
@[simp] theorem State.openSession_rejBusy (s : State) : s.openSession.rejBusy = s.rejBusy := rfl
@[simp] theorem State.openSession_aborted (s : State) : s.openSession.aborted = s.aborted := rfl
@[simp] theorem State.openSession_reading (s : State) : s.openSession.reading = s.reading := rfl
@[simp] theorem State.openSession_rvalid (s : State) : s.openSession.rvalid = s.rvalid := rfl
@[simp] theorem State.openSession_vcode (s : State) : s.openSession.vcode = s.vcode := rfl
@[simp] theorem State.openSession_vrx (s : State) : s.openSession.vrx = s.vrx := rfl
@[simp] theorem State.openSession_vcalc (s : State) : s.openSession.vcalc = s.vcalc := rfl
@[simp] theorem State.openSession_vobs (s : State) : s.openSession.vobs = s.vobs := rfl
@[simp] theorem State.openSession_rxbuf (s : State) : s.openSession.rxbuf = s.rxbuf := rfl
@[simp] theorem State.openSession_rxlen (s : State) : s.openSession.rxlen = s.rxlen := rfl
@[simp] theorem State.openSession_fifo (s : State) : s.openSession.fifo = s.fifo := rfl
@[simp] theorem State.openSession_ovf (s : State) : s.openSession.ovf = s.ovf := rfl
@[simp] theorem State.openSession_lineErr (s : State) : s.openSession.lineErr = s.lineErr := rfl
@[simp] theorem State.openSession_txlog (s : State) : s.openSession.txlog = s.txlog := rfl
@[simp] theorem State.openSession_params (s : State) : s.openSession.params = s.params := rfl
@[simp] theorem State.openSession_readData (s : State) : s.openSession.readData = s.readData := rfl
@[simp] theorem State.openSession_script (s : State) : s.openSession.script = s.script := rfl
@[simp] theorem State.openSession_fresh (s : State) : s.openSession.fresh = s.fresh := rfl

/-! ### `s.pend <- p` -/

@[simp] theorem State.setPend_acc (s : State) (p : Pend) : (s.setPend p).acc = s.acc := rfl
@[simp] theorem State.setPend_sess (s : State) (p : Pend) : (s.setPend p).sess = s.sess := rfl
@[simp] theorem State.setPend_pend (s : State) (p : Pend) : (s.setPend p).pend = p := rfl
@[simp] theorem State.setPend_cc (s : State) (p : Pend) : (s.setPend p).cc = s.cc := rfl
@[simp] theorem State.setPend_cause (s : State) (p : Pend) : (s.setPend p).cause = s.cause := rfl
@[simp] theorem State.setPend_rejBusy (s : State) (p : Pend) : (s.setPend p).rejBusy = s.rejBusy := rfl
@[simp] theorem State.setPend_aborted (s : State) (p : Pend) : (s.setPend p).aborted = s.aborted := rfl
@[simp] theorem State.setPend_reading (s : State) (p : Pend) : (s.setPend p).reading = s.reading := rfl
@[simp] theorem State.setPend_rvalid (s : State) (p : Pend) : (s.setPend p).rvalid = s.rvalid := rfl
@[simp] theorem State.setPend_vcode (s : State) (p : Pend) : (s.setPend p).vcode = s.vcode := rfl
@[simp] theorem State.setPend_vrx (s : State) (p : Pend) : (s.setPend p).vrx = s.vrx := rfl
@[simp] theorem State.setPend_vcalc (s : State) (p : Pend) : (s.setPend p).vcalc = s.vcalc := rfl
@[simp] theorem State.setPend_vobs (s : State) (p : Pend) : (s.setPend p).vobs = s.vobs := rfl
@[simp] theorem State.setPend_rxbuf (s : State) (p : Pend) : (s.setPend p).rxbuf = s.rxbuf := rfl
@[simp] theorem State.setPend_rxlen (s : State) (p : Pend) : (s.setPend p).rxlen = s.rxlen := rfl
@[simp] theorem State.setPend_fifo (s : State) (p : Pend) : (s.setPend p).fifo = s.fifo := rfl
@[simp] theorem State.setPend_ovf (s : State) (p : Pend) : (s.setPend p).ovf = s.ovf := rfl
@[simp] theorem State.setPend_lineErr (s : State) (p : Pend) : (s.setPend p).lineErr = s.lineErr := rfl
@[simp] theorem State.setPend_txlog (s : State) (p : Pend) : (s.setPend p).txlog = s.txlog := rfl
@[simp] theorem State.setPend_params (s : State) (p : Pend) : (s.setPend p).params = s.params := rfl
@[simp] theorem State.setPend_readData (s : State) (p : Pend) : (s.setPend p).readData = s.readData := rfl
@[simp] theorem State.setPend_script (s : State) (p : Pend) : (s.setPend p).script = s.script := rfl
@[simp] theorem State.setPend_fresh (s : State) (p : Pend) : (s.setPend p).fresh = s.fresh := rfl

/-! ### `s.aborted <- 1` -/

@[simp] theorem State.markAborted_acc (s : State) : s.markAborted.acc = s.acc := rfl
@[simp] theorem State.markAborted_sess (s : State) : s.markAborted.sess = s.sess := rfl
@[simp] theorem State.markAborted_pend (s : State) : s.markAborted.pend = s.pend := rfl
@[simp] theorem State.markAborted_cc (s : State) : s.markAborted.cc = s.cc := rfl
@[simp] theorem State.markAborted_cause (s : State) : s.markAborted.cause = s.cause := rfl
@[simp] theorem State.markAborted_rejBusy (s : State) : s.markAborted.rejBusy = s.rejBusy := rfl
@[simp] theorem State.markAborted_aborted (s : State) : s.markAborted.aborted = true := rfl
@[simp] theorem State.markAborted_reading (s : State) : s.markAborted.reading = s.reading := rfl
@[simp] theorem State.markAborted_rvalid (s : State) : s.markAborted.rvalid = s.rvalid := rfl
@[simp] theorem State.markAborted_vcode (s : State) : s.markAborted.vcode = s.vcode := rfl
@[simp] theorem State.markAborted_vrx (s : State) : s.markAborted.vrx = s.vrx := rfl
@[simp] theorem State.markAborted_vcalc (s : State) : s.markAborted.vcalc = s.vcalc := rfl
@[simp] theorem State.markAborted_vobs (s : State) : s.markAborted.vobs = s.vobs := rfl
@[simp] theorem State.markAborted_rxbuf (s : State) : s.markAborted.rxbuf = s.rxbuf := rfl
@[simp] theorem State.markAborted_rxlen (s : State) : s.markAborted.rxlen = s.rxlen := rfl
@[simp] theorem State.markAborted_fifo (s : State) : s.markAborted.fifo = s.fifo := rfl
@[simp] theorem State.markAborted_ovf (s : State) : s.markAborted.ovf = s.ovf := rfl
@[simp] theorem State.markAborted_lineErr (s : State) : s.markAborted.lineErr = s.lineErr := rfl
@[simp] theorem State.markAborted_txlog (s : State) : s.markAborted.txlog = s.txlog := rfl
@[simp] theorem State.markAborted_params (s : State) : s.markAborted.params = s.params := rfl
@[simp] theorem State.markAborted_readData (s : State) : s.markAborted.readData = s.readData := rfl
@[simp] theorem State.markAborted_script (s : State) : s.markAborted.script = s.script := rfl
@[simp] theorem State.markAborted_fresh (s : State) : s.markAborted.fresh = s.fresh := rfl

/-! ### `s.rxlen <- n` -/

@[simp] theorem State.setRxlen_acc (s : State) (n : Nat) : (s.setRxlen n).acc = s.acc := rfl
@[simp] theorem State.setRxlen_sess (s : State) (n : Nat) : (s.setRxlen n).sess = s.sess := rfl
@[simp] theorem State.setRxlen_pend (s : State) (n : Nat) : (s.setRxlen n).pend = s.pend := rfl
@[simp] theorem State.setRxlen_cc (s : State) (n : Nat) : (s.setRxlen n).cc = s.cc := rfl
@[simp] theorem State.setRxlen_cause (s : State) (n : Nat) : (s.setRxlen n).cause = s.cause := rfl
@[simp] theorem State.setRxlen_rejBusy (s : State) (n : Nat) : (s.setRxlen n).rejBusy = s.rejBusy := rfl
@[simp] theorem State.setRxlen_aborted (s : State) (n : Nat) : (s.setRxlen n).aborted = s.aborted := rfl
@[simp] theorem State.setRxlen_reading (s : State) (n : Nat) : (s.setRxlen n).reading = s.reading := rfl
@[simp] theorem State.setRxlen_rvalid (s : State) (n : Nat) : (s.setRxlen n).rvalid = s.rvalid := rfl
@[simp] theorem State.setRxlen_vcode (s : State) (n : Nat) : (s.setRxlen n).vcode = s.vcode := rfl
@[simp] theorem State.setRxlen_vrx (s : State) (n : Nat) : (s.setRxlen n).vrx = s.vrx := rfl
@[simp] theorem State.setRxlen_vcalc (s : State) (n : Nat) : (s.setRxlen n).vcalc = s.vcalc := rfl
@[simp] theorem State.setRxlen_vobs (s : State) (n : Nat) : (s.setRxlen n).vobs = s.vobs := rfl
@[simp] theorem State.setRxlen_rxbuf (s : State) (n : Nat) : (s.setRxlen n).rxbuf = s.rxbuf := rfl
@[simp] theorem State.setRxlen_rxlen (s : State) (n : Nat) : (s.setRxlen n).rxlen = n := rfl
@[simp] theorem State.setRxlen_fifo (s : State) (n : Nat) : (s.setRxlen n).fifo = s.fifo := rfl
@[simp] theorem State.setRxlen_ovf (s : State) (n : Nat) : (s.setRxlen n).ovf = s.ovf := rfl
@[simp] theorem State.setRxlen_lineErr (s : State) (n : Nat) : (s.setRxlen n).lineErr = s.lineErr := rfl
@[simp] theorem State.setRxlen_txlog (s : State) (n : Nat) : (s.setRxlen n).txlog = s.txlog := rfl
@[simp] theorem State.setRxlen_params (s : State) (n : Nat) : (s.setRxlen n).params = s.params := rfl
@[simp] theorem State.setRxlen_readData (s : State) (n : Nat) : (s.setRxlen n).readData = s.readData := rfl
@[simp] theorem State.setRxlen_script (s : State) (n : Nat) : (s.setRxlen n).script = s.script := rfl
@[simp] theorem State.setRxlen_fresh (s : State) (n : Nat) : (s.setRxlen n).fresh = s.fresh := rfl

/-! ### `s.fifo <- s.fifo ++ [b]` -/

@[simp] theorem State.queueByte_acc (s : State) (b : Byte) : (s.queueByte b).acc = s.acc := rfl
@[simp] theorem State.queueByte_sess (s : State) (b : Byte) : (s.queueByte b).sess = s.sess := rfl
@[simp] theorem State.queueByte_pend (s : State) (b : Byte) : (s.queueByte b).pend = s.pend := rfl
@[simp] theorem State.queueByte_cc (s : State) (b : Byte) : (s.queueByte b).cc = s.cc := rfl
@[simp] theorem State.queueByte_cause (s : State) (b : Byte) : (s.queueByte b).cause = s.cause := rfl
@[simp] theorem State.queueByte_rejBusy (s : State) (b : Byte) : (s.queueByte b).rejBusy = s.rejBusy := rfl
@[simp] theorem State.queueByte_aborted (s : State) (b : Byte) : (s.queueByte b).aborted = s.aborted := rfl
@[simp] theorem State.queueByte_reading (s : State) (b : Byte) : (s.queueByte b).reading = s.reading := rfl
@[simp] theorem State.queueByte_rvalid (s : State) (b : Byte) : (s.queueByte b).rvalid = s.rvalid := rfl
@[simp] theorem State.queueByte_vcode (s : State) (b : Byte) : (s.queueByte b).vcode = s.vcode := rfl
@[simp] theorem State.queueByte_vrx (s : State) (b : Byte) : (s.queueByte b).vrx = s.vrx := rfl
@[simp] theorem State.queueByte_vcalc (s : State) (b : Byte) : (s.queueByte b).vcalc = s.vcalc := rfl
@[simp] theorem State.queueByte_vobs (s : State) (b : Byte) : (s.queueByte b).vobs = s.vobs := rfl
@[simp] theorem State.queueByte_rxbuf (s : State) (b : Byte) : (s.queueByte b).rxbuf = s.rxbuf := rfl
@[simp] theorem State.queueByte_rxlen (s : State) (b : Byte) : (s.queueByte b).rxlen = s.rxlen := rfl
@[simp] theorem State.queueByte_fifo (s : State) (b : Byte) : (s.queueByte b).fifo = s.fifo ++ [b] := rfl
@[simp] theorem State.queueByte_ovf (s : State) (b : Byte) : (s.queueByte b).ovf = s.ovf := rfl
@[simp] theorem State.queueByte_lineErr (s : State) (b : Byte) : (s.queueByte b).lineErr = s.lineErr := rfl
@[simp] theorem State.queueByte_txlog (s : State) (b : Byte) : (s.queueByte b).txlog = s.txlog := rfl
@[simp] theorem State.queueByte_params (s : State) (b : Byte) : (s.queueByte b).params = s.params := rfl
@[simp] theorem State.queueByte_readData (s : State) (b : Byte) : (s.queueByte b).readData = s.readData := rfl
@[simp] theorem State.queueByte_script (s : State) (b : Byte) : (s.queueByte b).script = s.script := rfl
@[simp] theorem State.queueByte_fresh (s : State) (b : Byte) : (s.queueByte b).fresh = s.fresh := rfl

/-! ### `s.ovf <- 1` -/

@[simp] theorem State.markOverflow_acc (s : State) : s.markOverflow.acc = s.acc := rfl
@[simp] theorem State.markOverflow_sess (s : State) : s.markOverflow.sess = s.sess := rfl
@[simp] theorem State.markOverflow_pend (s : State) : s.markOverflow.pend = s.pend := rfl
@[simp] theorem State.markOverflow_cc (s : State) : s.markOverflow.cc = s.cc := rfl
@[simp] theorem State.markOverflow_cause (s : State) : s.markOverflow.cause = s.cause := rfl
@[simp] theorem State.markOverflow_rejBusy (s : State) : s.markOverflow.rejBusy = s.rejBusy := rfl
@[simp] theorem State.markOverflow_aborted (s : State) : s.markOverflow.aborted = s.aborted := rfl
@[simp] theorem State.markOverflow_reading (s : State) : s.markOverflow.reading = s.reading := rfl
@[simp] theorem State.markOverflow_rvalid (s : State) : s.markOverflow.rvalid = s.rvalid := rfl
@[simp] theorem State.markOverflow_vcode (s : State) : s.markOverflow.vcode = s.vcode := rfl
@[simp] theorem State.markOverflow_vrx (s : State) : s.markOverflow.vrx = s.vrx := rfl
@[simp] theorem State.markOverflow_vcalc (s : State) : s.markOverflow.vcalc = s.vcalc := rfl
@[simp] theorem State.markOverflow_vobs (s : State) : s.markOverflow.vobs = s.vobs := rfl
@[simp] theorem State.markOverflow_rxbuf (s : State) : s.markOverflow.rxbuf = s.rxbuf := rfl
@[simp] theorem State.markOverflow_rxlen (s : State) : s.markOverflow.rxlen = s.rxlen := rfl
@[simp] theorem State.markOverflow_fifo (s : State) : s.markOverflow.fifo = s.fifo := rfl
@[simp] theorem State.markOverflow_ovf (s : State) : s.markOverflow.ovf = true := rfl
@[simp] theorem State.markOverflow_lineErr (s : State) : s.markOverflow.lineErr = s.lineErr := rfl
@[simp] theorem State.markOverflow_txlog (s : State) : s.markOverflow.txlog = s.txlog := rfl
@[simp] theorem State.markOverflow_params (s : State) : s.markOverflow.params = s.params := rfl
@[simp] theorem State.markOverflow_readData (s : State) : s.markOverflow.readData = s.readData := rfl
@[simp] theorem State.markOverflow_script (s : State) : s.markOverflow.script = s.script := rfl
@[simp] theorem State.markOverflow_fresh (s : State) : s.markOverflow.fresh = s.fresh := rfl

/-! ### `s.line_err <- 1` -/

@[simp] theorem State.markLineErr_acc (s : State) : s.markLineErr.acc = s.acc := rfl
@[simp] theorem State.markLineErr_sess (s : State) : s.markLineErr.sess = s.sess := rfl
@[simp] theorem State.markLineErr_pend (s : State) : s.markLineErr.pend = s.pend := rfl
@[simp] theorem State.markLineErr_cc (s : State) : s.markLineErr.cc = s.cc := rfl
@[simp] theorem State.markLineErr_cause (s : State) : s.markLineErr.cause = s.cause := rfl
@[simp] theorem State.markLineErr_rejBusy (s : State) : s.markLineErr.rejBusy = s.rejBusy := rfl
@[simp] theorem State.markLineErr_aborted (s : State) : s.markLineErr.aborted = s.aborted := rfl
@[simp] theorem State.markLineErr_reading (s : State) : s.markLineErr.reading = s.reading := rfl
@[simp] theorem State.markLineErr_rvalid (s : State) : s.markLineErr.rvalid = s.rvalid := rfl
@[simp] theorem State.markLineErr_vcode (s : State) : s.markLineErr.vcode = s.vcode := rfl
@[simp] theorem State.markLineErr_vrx (s : State) : s.markLineErr.vrx = s.vrx := rfl
@[simp] theorem State.markLineErr_vcalc (s : State) : s.markLineErr.vcalc = s.vcalc := rfl
@[simp] theorem State.markLineErr_vobs (s : State) : s.markLineErr.vobs = s.vobs := rfl
@[simp] theorem State.markLineErr_rxbuf (s : State) : s.markLineErr.rxbuf = s.rxbuf := rfl
@[simp] theorem State.markLineErr_rxlen (s : State) : s.markLineErr.rxlen = s.rxlen := rfl
@[simp] theorem State.markLineErr_fifo (s : State) : s.markLineErr.fifo = s.fifo := rfl
@[simp] theorem State.markLineErr_ovf (s : State) : s.markLineErr.ovf = s.ovf := rfl
@[simp] theorem State.markLineErr_lineErr (s : State) : s.markLineErr.lineErr = true := rfl
@[simp] theorem State.markLineErr_txlog (s : State) : s.markLineErr.txlog = s.txlog := rfl
@[simp] theorem State.markLineErr_params (s : State) : s.markLineErr.params = s.params := rfl
@[simp] theorem State.markLineErr_readData (s : State) : s.markLineErr.readData = s.readData := rfl
@[simp] theorem State.markLineErr_script (s : State) : s.markLineErr.script = s.script := rfl
@[simp] theorem State.markLineErr_fresh (s : State) : s.markLineErr.fresh = s.fresh := rfl

/-! ### `s.reading <- r; s.rvalid <- 1` -/

@[simp] theorem State.setReading_acc (s : State) (r : Word) : (s.setReading r).acc = s.acc := rfl
@[simp] theorem State.setReading_sess (s : State) (r : Word) : (s.setReading r).sess = s.sess := rfl
@[simp] theorem State.setReading_pend (s : State) (r : Word) : (s.setReading r).pend = s.pend := rfl
@[simp] theorem State.setReading_cc (s : State) (r : Word) : (s.setReading r).cc = s.cc := rfl
@[simp] theorem State.setReading_cause (s : State) (r : Word) : (s.setReading r).cause = s.cause := rfl
@[simp] theorem State.setReading_rejBusy (s : State) (r : Word) : (s.setReading r).rejBusy = s.rejBusy := rfl
@[simp] theorem State.setReading_aborted (s : State) (r : Word) : (s.setReading r).aborted = s.aborted := rfl
@[simp] theorem State.setReading_reading (s : State) (r : Word) : (s.setReading r).reading = r := rfl
@[simp] theorem State.setReading_rvalid (s : State) (r : Word) : (s.setReading r).rvalid = true := rfl
@[simp] theorem State.setReading_vcode (s : State) (r : Word) : (s.setReading r).vcode = s.vcode := rfl
@[simp] theorem State.setReading_vrx (s : State) (r : Word) : (s.setReading r).vrx = s.vrx := rfl
@[simp] theorem State.setReading_vcalc (s : State) (r : Word) : (s.setReading r).vcalc = s.vcalc := rfl
@[simp] theorem State.setReading_vobs (s : State) (r : Word) : (s.setReading r).vobs = s.vobs := rfl
@[simp] theorem State.setReading_rxbuf (s : State) (r : Word) : (s.setReading r).rxbuf = s.rxbuf := rfl
@[simp] theorem State.setReading_rxlen (s : State) (r : Word) : (s.setReading r).rxlen = s.rxlen := rfl
@[simp] theorem State.setReading_fifo (s : State) (r : Word) : (s.setReading r).fifo = s.fifo := rfl
@[simp] theorem State.setReading_ovf (s : State) (r : Word) : (s.setReading r).ovf = s.ovf := rfl
@[simp] theorem State.setReading_lineErr (s : State) (r : Word) : (s.setReading r).lineErr = s.lineErr := rfl
@[simp] theorem State.setReading_txlog (s : State) (r : Word) : (s.setReading r).txlog = s.txlog := rfl
@[simp] theorem State.setReading_params (s : State) (r : Word) : (s.setReading r).params = s.params := rfl
@[simp] theorem State.setReading_readData (s : State) (r : Word) : (s.setReading r).readData = s.readData := rfl
@[simp] theorem State.setReading_script (s : State) (r : Word) : (s.setReading r).script = s.script := rfl
@[simp] theorem State.setReading_fresh (s : State) (r : Word) : (s.setReading r).fresh = s.fresh := rfl

/-! ### an accepted packet (42_validator.md R186) -/

@[simp] theorem State.acceptReading_acc (s : State) : s.acceptReading.acc = s.acc := rfl
@[simp] theorem State.acceptReading_sess (s : State) : s.acceptReading.sess = s.sess := rfl
@[simp] theorem State.acceptReading_pend (s : State) : s.acceptReading.pend = s.pend := rfl
@[simp] theorem State.acceptReading_cc (s : State) : s.acceptReading.cc = s.cc := rfl
@[simp] theorem State.acceptReading_cause (s : State) : s.acceptReading.cause = s.cause := rfl
@[simp] theorem State.acceptReading_rejBusy (s : State) : s.acceptReading.rejBusy = s.rejBusy := rfl
@[simp] theorem State.acceptReading_aborted (s : State) : s.acceptReading.aborted = s.aborted := rfl
@[simp] theorem State.acceptReading_reading (s : State) :
    s.acceptReading.reading = scaledReading (bigEndian16 (s.packetByte 4) (s.packetByte 5)) := rfl
@[simp] theorem State.acceptReading_rvalid (s : State) : s.acceptReading.rvalid = true := rfl
@[simp] theorem State.acceptReading_vcode (s : State) : s.acceptReading.vcode = s.vcode := rfl
@[simp] theorem State.acceptReading_vrx (s : State) : s.acceptReading.vrx = s.vrx := rfl
@[simp] theorem State.acceptReading_vcalc (s : State) : s.acceptReading.vcalc = s.vcalc := rfl
@[simp] theorem State.acceptReading_vobs (s : State) : s.acceptReading.vobs = s.vobs := rfl
@[simp] theorem State.acceptReading_rxbuf (s : State) : s.acceptReading.rxbuf = s.rxbuf := rfl
@[simp] theorem State.acceptReading_rxlen (s : State) : s.acceptReading.rxlen = s.rxlen := rfl
@[simp] theorem State.acceptReading_fifo (s : State) : s.acceptReading.fifo = s.fifo := rfl
@[simp] theorem State.acceptReading_ovf (s : State) : s.acceptReading.ovf = s.ovf := rfl
@[simp] theorem State.acceptReading_lineErr (s : State) : s.acceptReading.lineErr = s.lineErr := rfl
@[simp] theorem State.acceptReading_txlog (s : State) : s.acceptReading.txlog = s.txlog := rfl
@[simp] theorem State.acceptReading_params (s : State) : s.acceptReading.params = s.params := rfl
@[simp] theorem State.acceptReading_readData (s : State) : s.acceptReading.readData = s.readData := rfl
@[simp] theorem State.acceptReading_script (s : State) : s.acceptReading.script = s.script := rfl
@[simp] theorem State.acceptReading_fresh (s : State) : s.acceptReading.fresh = s.fresh := rfl

/-! ### a value that goes to the host (log 8) -/

@[simp] theorem State.returnToHost_acc (s : State) (v : Word) : (s.returnToHost v).acc = s.acc := rfl
@[simp] theorem State.returnToHost_sess (s : State) (v : Word) : (s.returnToHost v).sess = s.sess := rfl
@[simp] theorem State.returnToHost_pend (s : State) (v : Word) : (s.returnToHost v).pend = s.pend := rfl
@[simp] theorem State.returnToHost_cc (s : State) (v : Word) : (s.returnToHost v).cc = s.cc := rfl
@[simp] theorem State.returnToHost_cause (s : State) (v : Word) : (s.returnToHost v).cause = s.cause := rfl
@[simp] theorem State.returnToHost_rejBusy (s : State) (v : Word) : (s.returnToHost v).rejBusy = s.rejBusy := rfl
@[simp] theorem State.returnToHost_aborted (s : State) (v : Word) : (s.returnToHost v).aborted = s.aborted := rfl
@[simp] theorem State.returnToHost_reading (s : State) (v : Word) : (s.returnToHost v).reading = s.reading := rfl
@[simp] theorem State.returnToHost_rvalid (s : State) (v : Word) : (s.returnToHost v).rvalid = s.rvalid := rfl
@[simp] theorem State.returnToHost_vcode (s : State) (v : Word) : (s.returnToHost v).vcode = s.vcode := rfl
@[simp] theorem State.returnToHost_vrx (s : State) (v : Word) : (s.returnToHost v).vrx = s.vrx := rfl
@[simp] theorem State.returnToHost_vcalc (s : State) (v : Word) : (s.returnToHost v).vcalc = s.vcalc := rfl
@[simp] theorem State.returnToHost_vobs (s : State) (v : Word) : (s.returnToHost v).vobs = s.vobs := rfl
@[simp] theorem State.returnToHost_rxbuf (s : State) (v : Word) : (s.returnToHost v).rxbuf = s.rxbuf := rfl
@[simp] theorem State.returnToHost_rxlen (s : State) (v : Word) : (s.returnToHost v).rxlen = s.rxlen := rfl
@[simp] theorem State.returnToHost_fifo (s : State) (v : Word) : (s.returnToHost v).fifo = s.fifo := rfl
@[simp] theorem State.returnToHost_ovf (s : State) (v : Word) : (s.returnToHost v).ovf = s.ovf := rfl
@[simp] theorem State.returnToHost_lineErr (s : State) (v : Word) : (s.returnToHost v).lineErr = s.lineErr := rfl
@[simp] theorem State.returnToHost_txlog (s : State) (v : Word) : (s.returnToHost v).txlog = s.txlog := rfl
@[simp] theorem State.returnToHost_params (s : State) (v : Word) : (s.returnToHost v).params = s.params := rfl
@[simp] theorem State.returnToHost_readData (s : State) (v : Word) : (s.returnToHost v).readData = v := rfl
@[simp] theorem State.returnToHost_script (s : State) (v : Word) : (s.returnToHost v).script = s.script := rfl
@[simp] theorem State.returnToHost_fresh (s : State) (v : Word) : (s.returnToHost v).fresh = s.fresh := rfl

/-! ### the next free value (log 21) -/

@[simp] theorem State.drawFresh_acc (s : State) : s.drawFresh.acc = s.acc := rfl
@[simp] theorem State.drawFresh_sess (s : State) : s.drawFresh.sess = s.sess := rfl
@[simp] theorem State.drawFresh_pend (s : State) : s.drawFresh.pend = s.pend := rfl
@[simp] theorem State.drawFresh_cc (s : State) : s.drawFresh.cc = s.cc := rfl
@[simp] theorem State.drawFresh_cause (s : State) : s.drawFresh.cause = s.cause := rfl
@[simp] theorem State.drawFresh_rejBusy (s : State) : s.drawFresh.rejBusy = s.rejBusy := rfl
@[simp] theorem State.drawFresh_aborted (s : State) : s.drawFresh.aborted = s.aborted := rfl
@[simp] theorem State.drawFresh_reading (s : State) : s.drawFresh.reading = s.reading := rfl
@[simp] theorem State.drawFresh_rvalid (s : State) : s.drawFresh.rvalid = s.rvalid := rfl
@[simp] theorem State.drawFresh_vcode (s : State) : s.drawFresh.vcode = s.vcode := rfl
@[simp] theorem State.drawFresh_vrx (s : State) : s.drawFresh.vrx = s.vrx := rfl
@[simp] theorem State.drawFresh_vcalc (s : State) : s.drawFresh.vcalc = s.vcalc := rfl
@[simp] theorem State.drawFresh_vobs (s : State) : s.drawFresh.vobs = s.vobs := rfl
@[simp] theorem State.drawFresh_rxbuf (s : State) : s.drawFresh.rxbuf = s.rxbuf := rfl
@[simp] theorem State.drawFresh_rxlen (s : State) : s.drawFresh.rxlen = s.rxlen := rfl
@[simp] theorem State.drawFresh_fifo (s : State) : s.drawFresh.fifo = s.fifo := rfl
@[simp] theorem State.drawFresh_ovf (s : State) : s.drawFresh.ovf = s.ovf := rfl
@[simp] theorem State.drawFresh_lineErr (s : State) : s.drawFresh.lineErr = s.lineErr := rfl
@[simp] theorem State.drawFresh_txlog (s : State) : s.drawFresh.txlog = s.txlog := rfl
@[simp] theorem State.drawFresh_params (s : State) : s.drawFresh.params = s.params := rfl
@[simp] theorem State.drawFresh_readData (s : State) : s.drawFresh.readData = s.readData := rfl
@[simp] theorem State.drawFresh_script (s : State) : s.drawFresh.script = s.script := rfl
@[simp] theorem State.drawFresh_fresh (s : State) : s.drawFresh.fresh = s.fresh + 1 := rfl

/-! ### the delivery of a response (41_framer.md R152) -/

@[simp] theorem State.deliver_acc (s : State) (m : Nat) : (s.deliver m).acc = s.acc := rfl
@[simp] theorem State.deliver_sess (s : State) (m : Nat) : (s.deliver m).sess = s.sess := rfl
@[simp] theorem State.deliver_pend (s : State) (m : Nat) : (s.deliver m).pend = s.pend := rfl
@[simp] theorem State.deliver_cc (s : State) (m : Nat) : (s.deliver m).cc = s.cc := rfl
@[simp] theorem State.deliver_cause (s : State) (m : Nat) : (s.deliver m).cause = s.cause := rfl
@[simp] theorem State.deliver_rejBusy (s : State) (m : Nat) : (s.deliver m).rejBusy = s.rejBusy := rfl
@[simp] theorem State.deliver_aborted (s : State) (m : Nat) : (s.deliver m).aborted = s.aborted := rfl
@[simp] theorem State.deliver_reading (s : State) (m : Nat) : (s.deliver m).reading = s.reading := rfl
@[simp] theorem State.deliver_rvalid (s : State) (m : Nat) : (s.deliver m).rvalid = s.rvalid := rfl
@[simp] theorem State.deliver_vcode (s : State) (m : Nat) : (s.deliver m).vcode = s.vcode := rfl
@[simp] theorem State.deliver_vrx (s : State) (m : Nat) : (s.deliver m).vrx = s.vrx := rfl
@[simp] theorem State.deliver_vcalc (s : State) (m : Nat) : (s.deliver m).vcalc = s.vcalc := rfl
@[simp] theorem State.deliver_vobs (s : State) (m : Nat) : (s.deliver m).vobs = s.vobs := rfl
theorem State.deliver_rxbuf (s : State) (m : Nat) :
    (s.deliver m).rxbuf = s.rxbuf.writeBytes 0 (s.fifo.take (min s.fifo.length m)) := rfl
@[simp] theorem State.deliver_rxlen (s : State) (m : Nat) : (s.deliver m).rxlen = min s.fifo.length m := rfl
@[simp] theorem State.deliver_fifo (s : State) (m : Nat) :
    (s.deliver m).fifo = s.fifo.drop (min s.fifo.length m) := rfl
@[simp] theorem State.deliver_ovf (s : State) (m : Nat) : (s.deliver m).ovf = s.ovf := rfl
@[simp] theorem State.deliver_lineErr (s : State) (m : Nat) : (s.deliver m).lineErr = s.lineErr := rfl
@[simp] theorem State.deliver_txlog (s : State) (m : Nat) : (s.deliver m).txlog = s.txlog := rfl
@[simp] theorem State.deliver_params (s : State) (m : Nat) : (s.deliver m).params = s.params := rfl
@[simp] theorem State.deliver_readData (s : State) (m : Nat) : (s.deliver m).readData = s.readData := rfl
@[simp] theorem State.deliver_script (s : State) (m : Nat) : (s.deliver m).script = s.script := rfl
@[simp] theorem State.deliver_fresh (s : State) (m : Nat) : (s.deliver m).fresh = s.fresh := rfl

/-! ### a reset (70_reset_and_hazards.md R230) -/

@[simp] theorem State.resetBlock_acc (s : State) : s.resetBlock.acc = 0x00#8 := rfl
@[simp] theorem State.resetBlock_sess (s : State) : s.resetBlock.sess = .closed := rfl
@[simp] theorem State.resetBlock_pend (s : State) : s.resetBlock.pend = .none := rfl
@[simp] theorem State.resetBlock_cc (s : State) : s.resetBlock.cc = .ok := rfl
@[simp] theorem State.resetBlock_cause (s : State) : s.resetBlock.cause = .none := rfl
@[simp] theorem State.resetBlock_rejBusy (s : State) : s.resetBlock.rejBusy = false := rfl
@[simp] theorem State.resetBlock_aborted (s : State) : s.resetBlock.aborted = false := rfl
@[simp] theorem State.resetBlock_reading (s : State) : s.resetBlock.reading = 0x00000000#32 := rfl
@[simp] theorem State.resetBlock_rvalid (s : State) : s.resetBlock.rvalid = false := rfl
@[simp] theorem State.resetBlock_vcode (s : State) : s.resetBlock.vcode = .none := rfl
@[simp] theorem State.resetBlock_vrx (s : State) : s.resetBlock.vrx = 0#8 := rfl
@[simp] theorem State.resetBlock_vcalc (s : State) : s.resetBlock.vcalc = 0#8 := rfl
@[simp] theorem State.resetBlock_vobs (s : State) : s.resetBlock.vobs = 0#8 := rfl
@[simp] theorem State.resetBlock_rxbuf (s : State) : s.resetBlock.rxbuf = [] := rfl
@[simp] theorem State.resetBlock_rxlen (s : State) : s.resetBlock.rxlen = 0 := rfl
@[simp] theorem State.resetBlock_fifo (s : State) : s.resetBlock.fifo = [] := rfl
@[simp] theorem State.resetBlock_ovf (s : State) : s.resetBlock.ovf = false := rfl
@[simp] theorem State.resetBlock_lineErr (s : State) : s.resetBlock.lineErr = false := rfl
@[simp] theorem State.resetBlock_txlog (s : State) : s.resetBlock.txlog = s.txlog := rfl
@[simp] theorem State.resetBlock_params (s : State) : s.resetBlock.params = s.params := rfl
@[simp] theorem State.resetBlock_readData (s : State) : s.resetBlock.readData = s.readData := rfl
@[simp] theorem State.resetBlock_script (s : State) : s.resetBlock.script = s.script := rfl
@[simp] theorem State.resetBlock_fresh (s : State) : s.resetBlock.fresh = s.fresh := rfl

/-! ### `accept()` (30_encoding.md R96) -/

@[simp] theorem State.accept_acc (s : State) : s.accept.acc = s.acc := rfl
@[simp] theorem State.accept_sess (s : State) : s.accept.sess = s.sess := rfl
@[simp] theorem State.accept_pend (s : State) : s.accept.pend = s.pend := rfl
@[simp] theorem State.accept_cc (s : State) : s.accept.cc = .ok := rfl
@[simp] theorem State.accept_cause (s : State) : s.accept.cause = .none := rfl
@[simp] theorem State.accept_rejBusy (s : State) : s.accept.rejBusy = false := rfl
@[simp] theorem State.accept_aborted (s : State) : s.accept.aborted = false := rfl
@[simp] theorem State.accept_reading (s : State) : s.accept.reading = s.reading := rfl
@[simp] theorem State.accept_rvalid (s : State) : s.accept.rvalid = s.rvalid := rfl
@[simp] theorem State.accept_vcode (s : State) : s.accept.vcode = s.vcode := rfl
@[simp] theorem State.accept_vrx (s : State) : s.accept.vrx = s.vrx := rfl
@[simp] theorem State.accept_vcalc (s : State) : s.accept.vcalc = s.vcalc := rfl
@[simp] theorem State.accept_vobs (s : State) : s.accept.vobs = s.vobs := rfl
@[simp] theorem State.accept_rxbuf (s : State) : s.accept.rxbuf = s.rxbuf := rfl
@[simp] theorem State.accept_rxlen (s : State) : s.accept.rxlen = s.rxlen := rfl
@[simp] theorem State.accept_fifo (s : State) : s.accept.fifo = s.fifo := rfl
@[simp] theorem State.accept_ovf (s : State) : s.accept.ovf = s.ovf := rfl
@[simp] theorem State.accept_lineErr (s : State) : s.accept.lineErr = s.lineErr := rfl
@[simp] theorem State.accept_txlog (s : State) : s.accept.txlog = s.txlog := rfl
@[simp] theorem State.accept_params (s : State) : s.accept.params = s.params := rfl
@[simp] theorem State.accept_readData (s : State) : s.accept.readData = s.readData := rfl
@[simp] theorem State.accept_script (s : State) : s.accept.script = s.script := rfl
@[simp] theorem State.accept_fresh (s : State) : s.accept.fresh = s.fresh := rfl

/-! ### `complete(cc, cause)` (00_scope.md R9) -/

@[simp] theorem State.complete_acc (s : State) (c : CompletionCode) (d : Cause) : (s.complete c d).acc = s.acc := rfl
@[simp] theorem State.complete_sess (s : State) (c : CompletionCode) (d : Cause) :
    (s.complete c d).sess = s.sess := rfl
@[simp] theorem State.complete_pend (s : State) (c : CompletionCode) (d : Cause) :
    (s.complete c d).pend = .none := rfl
@[simp] theorem State.complete_cc (s : State) (c : CompletionCode) (d : Cause) : (s.complete c d).cc = c := rfl
@[simp] theorem State.complete_cause (s : State) (c : CompletionCode) (d : Cause) : (s.complete c d).cause = d := rfl
@[simp] theorem State.complete_rejBusy (s : State) (c : CompletionCode) (d : Cause) :
    (s.complete c d).rejBusy = s.rejBusy := rfl
@[simp] theorem State.complete_aborted (s : State) (c : CompletionCode) (d : Cause) :
    (s.complete c d).aborted = s.aborted := rfl
@[simp] theorem State.complete_reading (s : State) (c : CompletionCode) (d : Cause) :
    (s.complete c d).reading = s.reading := rfl
@[simp] theorem State.complete_rvalid (s : State) (c : CompletionCode) (d : Cause) :
    (s.complete c d).rvalid = s.rvalid := rfl
@[simp] theorem State.complete_vcode (s : State) (c : CompletionCode) (d : Cause) :
    (s.complete c d).vcode = s.vcode := rfl
@[simp] theorem State.complete_vrx (s : State) (c : CompletionCode) (d : Cause) : (s.complete c d).vrx = s.vrx := rfl
@[simp] theorem State.complete_vcalc (s : State) (c : CompletionCode) (d : Cause) :
    (s.complete c d).vcalc = s.vcalc := rfl
@[simp] theorem State.complete_vobs (s : State) (c : CompletionCode) (d : Cause) :
    (s.complete c d).vobs = s.vobs := rfl
@[simp] theorem State.complete_rxbuf (s : State) (c : CompletionCode) (d : Cause) :
    (s.complete c d).rxbuf = s.rxbuf := rfl
@[simp] theorem State.complete_rxlen (s : State) (c : CompletionCode) (d : Cause) :
    (s.complete c d).rxlen = s.rxlen := rfl
@[simp] theorem State.complete_fifo (s : State) (c : CompletionCode) (d : Cause) :
    (s.complete c d).fifo = s.fifo := rfl
@[simp] theorem State.complete_ovf (s : State) (c : CompletionCode) (d : Cause) : (s.complete c d).ovf = s.ovf := rfl
@[simp] theorem State.complete_lineErr (s : State) (c : CompletionCode) (d : Cause) :
    (s.complete c d).lineErr = s.lineErr := rfl
@[simp] theorem State.complete_txlog (s : State) (c : CompletionCode) (d : Cause) :
    (s.complete c d).txlog = s.txlog := rfl
@[simp] theorem State.complete_params (s : State) (c : CompletionCode) (d : Cause) :
    (s.complete c d).params = s.params := rfl
@[simp] theorem State.complete_readData (s : State) (c : CompletionCode) (d : Cause) :
    (s.complete c d).readData = s.readData := rfl
@[simp] theorem State.complete_script (s : State) (c : CompletionCode) (d : Cause) :
    (s.complete c d).script = s.script := rfl
@[simp] theorem State.complete_fresh (s : State) (c : CompletionCode) (d : Cause) :
    (s.complete c d).fresh = s.fresh := rfl

/-! ### `teardown()` (41_framer.md R141) -/

@[simp] theorem State.teardown_acc (s : State) : s.teardown.acc = s.acc := rfl
@[simp] theorem State.teardown_sess (s : State) : s.teardown.sess = .closed := rfl
@[simp] theorem State.teardown_pend (s : State) : s.teardown.pend = s.pend := rfl
@[simp] theorem State.teardown_cc (s : State) : s.teardown.cc = s.cc := rfl
@[simp] theorem State.teardown_cause (s : State) : s.teardown.cause = s.cause := rfl
@[simp] theorem State.teardown_rejBusy (s : State) : s.teardown.rejBusy = s.rejBusy := rfl
@[simp] theorem State.teardown_aborted (s : State) : s.teardown.aborted = s.aborted := rfl
@[simp] theorem State.teardown_reading (s : State) : s.teardown.reading = s.reading := rfl
@[simp] theorem State.teardown_rvalid (s : State) : s.teardown.rvalid = s.rvalid := rfl
@[simp] theorem State.teardown_vcode (s : State) : s.teardown.vcode = s.vcode := rfl
@[simp] theorem State.teardown_vrx (s : State) : s.teardown.vrx = s.vrx := rfl
@[simp] theorem State.teardown_vcalc (s : State) : s.teardown.vcalc = s.vcalc := rfl
@[simp] theorem State.teardown_vobs (s : State) : s.teardown.vobs = s.vobs := rfl
@[simp] theorem State.teardown_rxbuf (s : State) : s.teardown.rxbuf = s.rxbuf := rfl
@[simp] theorem State.teardown_rxlen (s : State) : s.teardown.rxlen = s.rxlen := rfl
@[simp] theorem State.teardown_fifo (s : State) : s.teardown.fifo = [] := rfl
@[simp] theorem State.teardown_ovf (s : State) : s.teardown.ovf = false := rfl
@[simp] theorem State.teardown_lineErr (s : State) : s.teardown.lineErr = false := rfl
@[simp] theorem State.teardown_txlog (s : State) : s.teardown.txlog = s.txlog := rfl
@[simp] theorem State.teardown_params (s : State) : s.teardown.params = s.params := rfl
@[simp] theorem State.teardown_readData (s : State) : s.teardown.readData = s.readData := rfl
@[simp] theorem State.teardown_script (s : State) : s.teardown.script = s.script := rfl
@[simp] theorem State.teardown_fresh (s : State) : s.teardown.fresh = s.fresh := rfl

/-! ### the report of a connection fault (60_exceptions.md R201) -/

@[simp] theorem State.connFault_acc (s : State) (d : Cause) : (s.connFault d).acc = s.acc := rfl
@[simp] theorem State.connFault_sess (s : State) (d : Cause) : (s.connFault d).sess = s.sess := rfl
@[simp] theorem State.connFault_pend (s : State) (d : Cause) : (s.connFault d).pend = .none := rfl
@[simp] theorem State.connFault_cc (s : State) (d : Cause) : (s.connFault d).cc = .connFault := rfl
@[simp] theorem State.connFault_cause (s : State) (d : Cause) : (s.connFault d).cause = d := rfl
@[simp] theorem State.connFault_rejBusy (s : State) (d : Cause) : (s.connFault d).rejBusy = s.rejBusy := rfl
@[simp] theorem State.connFault_aborted (s : State) (d : Cause) : (s.connFault d).aborted = s.aborted := rfl
@[simp] theorem State.connFault_reading (s : State) (d : Cause) : (s.connFault d).reading = s.reading := rfl
@[simp] theorem State.connFault_rvalid (s : State) (d : Cause) : (s.connFault d).rvalid = s.rvalid := rfl
@[simp] theorem State.connFault_vcode (s : State) (d : Cause) : (s.connFault d).vcode = s.vcode := rfl
@[simp] theorem State.connFault_vrx (s : State) (d : Cause) : (s.connFault d).vrx = s.vrx := rfl
@[simp] theorem State.connFault_vcalc (s : State) (d : Cause) : (s.connFault d).vcalc = s.vcalc := rfl
@[simp] theorem State.connFault_vobs (s : State) (d : Cause) : (s.connFault d).vobs = s.vobs := rfl
@[simp] theorem State.connFault_rxbuf (s : State) (d : Cause) : (s.connFault d).rxbuf = s.rxbuf := rfl
@[simp] theorem State.connFault_rxlen (s : State) (d : Cause) : (s.connFault d).rxlen = s.rxlen := rfl
@[simp] theorem State.connFault_fifo (s : State) (d : Cause) : (s.connFault d).fifo = s.fifo := rfl
@[simp] theorem State.connFault_ovf (s : State) (d : Cause) : (s.connFault d).ovf = s.ovf := rfl
@[simp] theorem State.connFault_lineErr (s : State) (d : Cause) : (s.connFault d).lineErr = s.lineErr := rfl
@[simp] theorem State.connFault_txlog (s : State) (d : Cause) : (s.connFault d).txlog = s.txlog := rfl
@[simp] theorem State.connFault_params (s : State) (d : Cause) : (s.connFault d).params = s.params := rfl
@[simp] theorem State.connFault_readData (s : State) (d : Cause) : (s.connFault d).readData = s.readData := rfl
@[simp] theorem State.connFault_script (s : State) (d : Cause) : (s.connFault d).script = s.script := rfl
@[simp] theorem State.connFault_fresh (s : State) (d : Cause) : (s.connFault d).fresh = s.fresh := rfl

/-! ### a connection fault of a line command (60_exceptions.md R207) -/

@[simp] theorem State.lineCommandFault_acc (s : State) (d : Cause) : (s.lineCommandFault d).acc = s.acc := rfl
@[simp] theorem State.lineCommandFault_sess (s : State) (d : Cause) : (s.lineCommandFault d).sess = .closed := rfl
@[simp] theorem State.lineCommandFault_pend (s : State) (d : Cause) : (s.lineCommandFault d).pend = .none := rfl
@[simp] theorem State.lineCommandFault_cc (s : State) (d : Cause) : (s.lineCommandFault d).cc = .connFault := rfl
@[simp] theorem State.lineCommandFault_cause (s : State) (d : Cause) : (s.lineCommandFault d).cause = d := rfl
@[simp] theorem State.lineCommandFault_rejBusy (s : State) (d : Cause) :
    (s.lineCommandFault d).rejBusy = s.rejBusy := rfl
@[simp] theorem State.lineCommandFault_aborted (s : State) (d : Cause) :
    (s.lineCommandFault d).aborted = s.aborted := rfl
@[simp] theorem State.lineCommandFault_reading (s : State) (d : Cause) :
    (s.lineCommandFault d).reading = s.reading := rfl
@[simp] theorem State.lineCommandFault_rvalid (s : State) (d : Cause) :
    (s.lineCommandFault d).rvalid = s.rvalid := rfl
@[simp] theorem State.lineCommandFault_vcode (s : State) (d : Cause) : (s.lineCommandFault d).vcode = s.vcode := rfl
@[simp] theorem State.lineCommandFault_vrx (s : State) (d : Cause) : (s.lineCommandFault d).vrx = s.vrx := rfl
@[simp] theorem State.lineCommandFault_vcalc (s : State) (d : Cause) : (s.lineCommandFault d).vcalc = s.vcalc := rfl
@[simp] theorem State.lineCommandFault_vobs (s : State) (d : Cause) : (s.lineCommandFault d).vobs = s.vobs := rfl
@[simp] theorem State.lineCommandFault_rxbuf (s : State) (d : Cause) : (s.lineCommandFault d).rxbuf = s.rxbuf := rfl
@[simp] theorem State.lineCommandFault_rxlen (s : State) (d : Cause) : (s.lineCommandFault d).rxlen = s.rxlen := rfl
@[simp] theorem State.lineCommandFault_fifo (s : State) (d : Cause) : (s.lineCommandFault d).fifo = [] := rfl
@[simp] theorem State.lineCommandFault_ovf (s : State) (d : Cause) : (s.lineCommandFault d).ovf = false := rfl
@[simp] theorem State.lineCommandFault_lineErr (s : State) (d : Cause) : (s.lineCommandFault d).lineErr = false := rfl
@[simp] theorem State.lineCommandFault_txlog (s : State) (d : Cause) : (s.lineCommandFault d).txlog = s.txlog := rfl
@[simp] theorem State.lineCommandFault_params (s : State) (d : Cause) :
    (s.lineCommandFault d).params = s.params := rfl
@[simp] theorem State.lineCommandFault_readData (s : State) (d : Cause) :
    (s.lineCommandFault d).readData = s.readData := rfl
@[simp] theorem State.lineCommandFault_script (s : State) (d : Cause) :
    (s.lineCommandFault d).script = s.script := rfl
@[simp] theorem State.lineCommandFault_fresh (s : State) (d : Cause) : (s.lineCommandFault d).fresh = s.fresh := rfl

/-! ### `emit_tx(b)` (00_scope.md R9) -/

@[simp] theorem State.emitTx_acc (s : State) (b : Byte) : (s.emitTx b).acc = s.acc := rfl
@[simp] theorem State.emitTx_sess (s : State) (b : Byte) : (s.emitTx b).sess = s.sess := rfl
@[simp] theorem State.emitTx_pend (s : State) (b : Byte) : (s.emitTx b).pend = s.pend := rfl
@[simp] theorem State.emitTx_cc (s : State) (b : Byte) : (s.emitTx b).cc = s.cc := rfl
@[simp] theorem State.emitTx_cause (s : State) (b : Byte) : (s.emitTx b).cause = s.cause := rfl
@[simp] theorem State.emitTx_rejBusy (s : State) (b : Byte) : (s.emitTx b).rejBusy = s.rejBusy := rfl
@[simp] theorem State.emitTx_aborted (s : State) (b : Byte) : (s.emitTx b).aborted = s.aborted := rfl
@[simp] theorem State.emitTx_reading (s : State) (b : Byte) : (s.emitTx b).reading = s.reading := rfl
@[simp] theorem State.emitTx_rvalid (s : State) (b : Byte) : (s.emitTx b).rvalid = s.rvalid := rfl
@[simp] theorem State.emitTx_vcode (s : State) (b : Byte) : (s.emitTx b).vcode = s.vcode := rfl
@[simp] theorem State.emitTx_vrx (s : State) (b : Byte) : (s.emitTx b).vrx = s.vrx := rfl
@[simp] theorem State.emitTx_vcalc (s : State) (b : Byte) : (s.emitTx b).vcalc = s.vcalc := rfl
@[simp] theorem State.emitTx_vobs (s : State) (b : Byte) : (s.emitTx b).vobs = s.vobs := rfl
@[simp] theorem State.emitTx_rxbuf (s : State) (b : Byte) : (s.emitTx b).rxbuf = s.rxbuf := rfl
@[simp] theorem State.emitTx_rxlen (s : State) (b : Byte) : (s.emitTx b).rxlen = s.rxlen := rfl
@[simp] theorem State.emitTx_fifo (s : State) (b : Byte) : (s.emitTx b).fifo = s.fifo := rfl
@[simp] theorem State.emitTx_ovf (s : State) (b : Byte) : (s.emitTx b).ovf = s.ovf := rfl
@[simp] theorem State.emitTx_lineErr (s : State) (b : Byte) : (s.emitTx b).lineErr = s.lineErr := rfl
@[simp] theorem State.emitTx_txlog (s : State) (b : Byte) : (s.emitTx b).txlog = s.txlog ++ [b] := rfl
@[simp] theorem State.emitTx_params (s : State) (b : Byte) : (s.emitTx b).params = s.params := rfl
@[simp] theorem State.emitTx_readData (s : State) (b : Byte) : (s.emitTx b).readData = s.readData := rfl
@[simp] theorem State.emitTx_script (s : State) (b : Byte) : (s.emitTx b).script = s.script := rfl
@[simp] theorem State.emitTx_fresh (s : State) (b : Byte) : (s.emitTx b).fresh = s.fresh := rfl

/-! ### a dropped word (30_encoding.md R97) -/

@[simp] theorem State.dropCommand_acc (s : State) : s.dropCommand.acc = s.acc := rfl
@[simp] theorem State.dropCommand_sess (s : State) : s.dropCommand.sess = s.sess := rfl
@[simp] theorem State.dropCommand_pend (s : State) : s.dropCommand.pend = s.pend := rfl
@[simp] theorem State.dropCommand_cc (s : State) : s.dropCommand.cc = s.cc := rfl
@[simp] theorem State.dropCommand_cause (s : State) : s.dropCommand.cause = s.cause := rfl
@[simp] theorem State.dropCommand_rejBusy (s : State) : s.dropCommand.rejBusy = true := rfl
@[simp] theorem State.dropCommand_aborted (s : State) : s.dropCommand.aborted = s.aborted := rfl
@[simp] theorem State.dropCommand_reading (s : State) : s.dropCommand.reading = s.reading := rfl
@[simp] theorem State.dropCommand_rvalid (s : State) : s.dropCommand.rvalid = s.rvalid := rfl
@[simp] theorem State.dropCommand_vcode (s : State) : s.dropCommand.vcode = s.vcode := rfl
@[simp] theorem State.dropCommand_vrx (s : State) : s.dropCommand.vrx = s.vrx := rfl
@[simp] theorem State.dropCommand_vcalc (s : State) : s.dropCommand.vcalc = s.vcalc := rfl
@[simp] theorem State.dropCommand_vobs (s : State) : s.dropCommand.vobs = s.vobs := rfl
@[simp] theorem State.dropCommand_rxbuf (s : State) : s.dropCommand.rxbuf = s.rxbuf := rfl
@[simp] theorem State.dropCommand_rxlen (s : State) : s.dropCommand.rxlen = s.rxlen := rfl
@[simp] theorem State.dropCommand_fifo (s : State) : s.dropCommand.fifo = s.fifo := rfl
@[simp] theorem State.dropCommand_ovf (s : State) : s.dropCommand.ovf = s.ovf := rfl
@[simp] theorem State.dropCommand_lineErr (s : State) : s.dropCommand.lineErr = s.lineErr := rfl
@[simp] theorem State.dropCommand_txlog (s : State) : s.dropCommand.txlog = s.txlog := rfl
@[simp] theorem State.dropCommand_params (s : State) : s.dropCommand.params = s.params := rfl
@[simp] theorem State.dropCommand_readData (s : State) : s.dropCommand.readData = s.readData := rfl
@[simp] theorem State.dropCommand_script (s : State) : s.dropCommand.script = s.script := rfl
@[simp] theorem State.dropCommand_fresh (s : State) : s.dropCommand.fresh = s.fresh := rfl

/-! ### an illegal word (30_encoding.md R95) -/

@[simp] theorem State.illegalCommand_acc (s : State) : s.illegalCommand.acc = s.acc := rfl
@[simp] theorem State.illegalCommand_sess (s : State) : s.illegalCommand.sess = s.sess := rfl
@[simp] theorem State.illegalCommand_pend (s : State) : s.illegalCommand.pend = s.pend := rfl
@[simp] theorem State.illegalCommand_cc (s : State) : s.illegalCommand.cc = .illegalCmd := rfl
@[simp] theorem State.illegalCommand_cause (s : State) : s.illegalCommand.cause = .none := rfl
@[simp] theorem State.illegalCommand_rejBusy (s : State) : s.illegalCommand.rejBusy = s.rejBusy := rfl
@[simp] theorem State.illegalCommand_aborted (s : State) : s.illegalCommand.aborted = s.aborted := rfl
@[simp] theorem State.illegalCommand_reading (s : State) : s.illegalCommand.reading = s.reading := rfl
@[simp] theorem State.illegalCommand_rvalid (s : State) : s.illegalCommand.rvalid = s.rvalid := rfl
@[simp] theorem State.illegalCommand_vcode (s : State) : s.illegalCommand.vcode = s.vcode := rfl
@[simp] theorem State.illegalCommand_vrx (s : State) : s.illegalCommand.vrx = s.vrx := rfl
@[simp] theorem State.illegalCommand_vcalc (s : State) : s.illegalCommand.vcalc = s.vcalc := rfl
@[simp] theorem State.illegalCommand_vobs (s : State) : s.illegalCommand.vobs = s.vobs := rfl
@[simp] theorem State.illegalCommand_rxbuf (s : State) : s.illegalCommand.rxbuf = s.rxbuf := rfl
@[simp] theorem State.illegalCommand_rxlen (s : State) : s.illegalCommand.rxlen = s.rxlen := rfl
@[simp] theorem State.illegalCommand_fifo (s : State) : s.illegalCommand.fifo = s.fifo := rfl
@[simp] theorem State.illegalCommand_ovf (s : State) : s.illegalCommand.ovf = s.ovf := rfl
@[simp] theorem State.illegalCommand_lineErr (s : State) : s.illegalCommand.lineErr = s.lineErr := rfl
@[simp] theorem State.illegalCommand_txlog (s : State) : s.illegalCommand.txlog = s.txlog := rfl
@[simp] theorem State.illegalCommand_params (s : State) : s.illegalCommand.params = s.params := rfl
@[simp] theorem State.illegalCommand_readData (s : State) : s.illegalCommand.readData = s.readData := rfl
@[simp] theorem State.illegalCommand_script (s : State) : s.illegalCommand.script = s.script := rfl
@[simp] theorem State.illegalCommand_fresh (s : State) : s.illegalCommand.fresh = s.fresh := rfl

/-! ### `result` (42_validator.md R180) -/

@[simp] theorem State.recordResult_acc (s : State) (v : VCode) (r c o : Byte) :
    (s.recordResult v r c o).acc = s.acc := rfl
@[simp] theorem State.recordResult_sess (s : State) (v : VCode) (r c o : Byte) :
    (s.recordResult v r c o).sess = s.sess := rfl
@[simp] theorem State.recordResult_pend (s : State) (v : VCode) (r c o : Byte) :
    (s.recordResult v r c o).pend = s.pend := rfl
@[simp] theorem State.recordResult_cc (s : State) (v : VCode) (r c o : Byte) :
    (s.recordResult v r c o).cc = s.cc := rfl
@[simp] theorem State.recordResult_cause (s : State) (v : VCode) (r c o : Byte) :
    (s.recordResult v r c o).cause = s.cause := rfl
@[simp] theorem State.recordResult_rejBusy (s : State) (v : VCode) (r c o : Byte) :
    (s.recordResult v r c o).rejBusy = s.rejBusy := rfl
@[simp] theorem State.recordResult_aborted (s : State) (v : VCode) (r c o : Byte) :
    (s.recordResult v r c o).aborted = s.aborted := rfl
@[simp] theorem State.recordResult_reading (s : State) (v : VCode) (r c o : Byte) :
    (s.recordResult v r c o).reading = s.reading := rfl
@[simp] theorem State.recordResult_rvalid (s : State) (v : VCode) (r c o : Byte) :
    (s.recordResult v r c o).rvalid = s.rvalid := rfl
@[simp] theorem State.recordResult_vcode (s : State) (v : VCode) (r c o : Byte) :
    (s.recordResult v r c o).vcode = v := rfl
@[simp] theorem State.recordResult_vrx (s : State) (v : VCode) (r c o : Byte) :
    (s.recordResult v r c o).vrx = r := rfl
@[simp] theorem State.recordResult_vcalc (s : State) (v : VCode) (r c o : Byte) :
    (s.recordResult v r c o).vcalc = c := rfl
@[simp] theorem State.recordResult_vobs (s : State) (v : VCode) (r c o : Byte) :
    (s.recordResult v r c o).vobs = o := rfl
@[simp] theorem State.recordResult_rxbuf (s : State) (v : VCode) (r c o : Byte) :
    (s.recordResult v r c o).rxbuf = s.rxbuf := rfl
@[simp] theorem State.recordResult_rxlen (s : State) (v : VCode) (r c o : Byte) :
    (s.recordResult v r c o).rxlen = s.rxlen := rfl
@[simp] theorem State.recordResult_fifo (s : State) (v : VCode) (r c o : Byte) :
    (s.recordResult v r c o).fifo = s.fifo := rfl
@[simp] theorem State.recordResult_ovf (s : State) (v : VCode) (r c o : Byte) :
    (s.recordResult v r c o).ovf = s.ovf := rfl
@[simp] theorem State.recordResult_lineErr (s : State) (v : VCode) (r c o : Byte) :
    (s.recordResult v r c o).lineErr = s.lineErr := rfl
@[simp] theorem State.recordResult_txlog (s : State) (v : VCode) (r c o : Byte) :
    (s.recordResult v r c o).txlog = s.txlog := rfl
@[simp] theorem State.recordResult_params (s : State) (v : VCode) (r c o : Byte) :
    (s.recordResult v r c o).params = s.params := rfl
@[simp] theorem State.recordResult_readData (s : State) (v : VCode) (r c o : Byte) :
    (s.recordResult v r c o).readData = s.readData := rfl
@[simp] theorem State.recordResult_script (s : State) (v : VCode) (r c o : Byte) :
    (s.recordResult v r c o).script = s.script := rfl
@[simp] theorem State.recordResult_fresh (s : State) (v : VCode) (r c o : Byte) :
    (s.recordResult v r c o).fresh = s.fresh := rfl

/-! ### the event taken off the announced list (log 1) -/

@[simp] theorem State.announced_acc (s : State) (es : List Event) : (s.announced es).acc = s.acc := rfl
@[simp] theorem State.announced_sess (s : State) (es : List Event) : (s.announced es).sess = s.sess := rfl
@[simp] theorem State.announced_pend (s : State) (es : List Event) : (s.announced es).pend = s.pend := rfl
@[simp] theorem State.announced_cc (s : State) (es : List Event) : (s.announced es).cc = s.cc := rfl
@[simp] theorem State.announced_cause (s : State) (es : List Event) : (s.announced es).cause = s.cause := rfl
@[simp] theorem State.announced_rejBusy (s : State) (es : List Event) : (s.announced es).rejBusy = s.rejBusy := rfl
@[simp] theorem State.announced_aborted (s : State) (es : List Event) : (s.announced es).aborted = s.aborted := rfl
@[simp] theorem State.announced_reading (s : State) (es : List Event) : (s.announced es).reading = s.reading := rfl
@[simp] theorem State.announced_rvalid (s : State) (es : List Event) : (s.announced es).rvalid = s.rvalid := rfl
@[simp] theorem State.announced_vcode (s : State) (es : List Event) : (s.announced es).vcode = s.vcode := rfl
@[simp] theorem State.announced_vrx (s : State) (es : List Event) : (s.announced es).vrx = s.vrx := rfl
@[simp] theorem State.announced_vcalc (s : State) (es : List Event) : (s.announced es).vcalc = s.vcalc := rfl
@[simp] theorem State.announced_vobs (s : State) (es : List Event) : (s.announced es).vobs = s.vobs := rfl
@[simp] theorem State.announced_rxbuf (s : State) (es : List Event) : (s.announced es).rxbuf = s.rxbuf := rfl
@[simp] theorem State.announced_rxlen (s : State) (es : List Event) : (s.announced es).rxlen = s.rxlen := rfl
@[simp] theorem State.announced_fifo (s : State) (es : List Event) : (s.announced es).fifo = s.fifo := rfl
@[simp] theorem State.announced_ovf (s : State) (es : List Event) : (s.announced es).ovf = s.ovf := rfl
@[simp] theorem State.announced_lineErr (s : State) (es : List Event) : (s.announced es).lineErr = s.lineErr := rfl
@[simp] theorem State.announced_txlog (s : State) (es : List Event) : (s.announced es).txlog = s.txlog := rfl
@[simp] theorem State.announced_params (s : State) (es : List Event) : (s.announced es).params = s.params := rfl
@[simp] theorem State.announced_readData (s : State) (es : List Event) : (s.announced es).readData = s.readData := rfl
@[simp] theorem State.announced_script (s : State) (es : List Event) : (s.announced es).script = es := rfl
@[simp] theorem State.announced_fresh (s : State) (es : List Event) : (s.announced es).fresh = s.fresh := rfl

end Sys2Proof.Machine
end

