-- ==== Sys2Proof/Laws/Ops.lean ====
section
/-! SUPPORT. What the shared operations can do, said once: acceptance, the discarding part of `CLOSE`, the delivery of a
response and the outcome of a validation. Later proofs cite these instead of unfolding the operations. -/

namespace Sys2Proof.Machine

theorem State.busy_iff (s : State) : s.busy = true ↔ s.pend ≠ .none := by
  simp [State.busy]

theorem State.not_busy_iff (s : State) : s.busy = false ↔ s.pend = .none := by
  simp [State.busy]

/-- An idle block accepts and performs (30_encoding.md R96). -/
theorem State.issue_idle (f : State → State) {s : State} (h : s.pend = .none) : s.issue f = f s.accept := by
  simp [State.issue, (State.not_busy_iff s).mpr h]

/-- A busy block drops (30_encoding.md R97). -/
theorem State.issue_busy (f : State → State) {s : State} (h : s.pend ≠ .none) : s.issue f = s.dropCommand := by
  simp [State.issue, (State.busy_iff s).mpr h]

/-- Everything acceptance can do. -/
theorem State.issue_cases (f : State → State) (s : State) :
    (s.pend ≠ .none ∧ s.issue f = s.dropCommand) ∨ (s.pend = .none ∧ s.issue f = f s.accept) := by
  by_cases h : s.pend = .none
  · exact .inr ⟨h, State.issue_idle f h⟩
  · exact .inl ⟨h, State.issue_busy f h⟩

/-- Everything the discarding part of `CLOSE` can do (41_framer.md R147). -/
theorem State.discardPending_cases (s : State) :
    (s.pend = .none ∧ s.discardPending = s) ∨
    (∃ m, s.pend = .reading m ∧ s.discardPending = (s.markAborted.setRxlen 0).setPend .none) ∨
    (s.pend ≠ .none ∧ (∀ m, s.pend ≠ .reading m) ∧
      s.discardPending = s.markAborted.setPend .none) := by
  cases h : s.pend <;> simp [State.discardPending, h]

/-- Everything an accepted `req.send` can do (41_framer.md R148). -/
theorem State.sendRequest_cases (s : State) :
    (s.sess = .closed ∧ s.sendRequest = s.connFault .notOpen) ∨
    (s.sess = .opened ∧ s.lineErr = true ∧ s.sendRequest = s.lineCommandFault .writeFailed) ∨
    (s.sess = .opened ∧ s.lineErr = false ∧ s.sendRequest = s.setPend (.sending 0)) := by
  cases hs : s.sess <;> cases hl : s.lineErr <;> simp [State.sendRequest, hs, hl]

/-- Everything an accepted `resp.read n` can do (41_framer.md R151). -/
theorem State.readResponse_cases (n : Nat) (s : State) :
    (s.sess = .closed ∧ s.readResponse n = (s.setRxlen 0).connFault .notOpen) ∨
    (s.sess = .opened ∧ s.lineErr = true ∧ s.readResponse n = (s.setRxlen 0).lineCommandFault .readFailed) ∨
    (s.sess = .opened ∧ s.lineErr = false ∧ s.readResponse n = s.setPend (.reading n)) := by
  cases hs : s.sess <;> cases hl : s.lineErr <;> simp [State.readResponse, hs, hl]

/-- `CLOSE` leaves no command pending (41_framer.md R147). -/
@[simp] theorem State.discardPending_pend (s : State) : s.discardPending.pend = .none := by
  cases h : s.pend <;> simp [State.discardPending, h]

/-- Everything a validation can do, in the order of its rules (42_validator.md R180, R188). -/
theorem State.validate_cases (s : State) :
    (s.rxlen < Config.pktLen ∧ s.validate = s.recordResult .tooShort 0#8 0#8 0#8) ∨
    (Config.pktLen ≤ s.rxlen ∧ crc8 s.checkedBytes ≠ s.packetByte 12 ∧
      s.validate = s.recordResult .checksumMismatch (s.packetByte 12) (crc8 s.checkedBytes) 0#8) ∨
    (Config.pktLen ≤ s.rxlen ∧ crc8 s.checkedBytes = s.packetByte 12 ∧ s.packetByte 2 ≠ Config.pktMarker ∧
      s.validate =
        s.recordResult .unexpectedMarker (s.packetByte 12) (crc8 s.checkedBytes) (s.packetByte 2)) ∨
    (Config.pktLen ≤ s.rxlen ∧ crc8 s.checkedBytes = s.packetByte 12 ∧ s.packetByte 2 = Config.pktMarker ∧
      s.packetByte 3 ≠ Config.pktCount ∧
      s.validate =
        s.recordResult .unexpectedSensorCount (s.packetByte 12) (crc8 s.checkedBytes) (s.packetByte 3)) ∨
    (Config.pktLen ≤ s.rxlen ∧ crc8 s.checkedBytes = s.packetByte 12 ∧ s.packetByte 2 = Config.pktMarker ∧
      s.packetByte 3 = Config.pktCount ∧
      s.validate = s.acceptReading.recordResult .ok (s.packetByte 12) (crc8 s.checkedBytes) 0#8) := by
  simp only [State.validate]
  by_cases hl : s.rxlen < Config.pktLen
  · exact .inl ⟨hl, if_pos hl⟩
  rw [if_neg hl]
  have hl' := Nat.le_of_not_lt hl
  by_cases hc : crc8 s.checkedBytes = s.packetByte 12
  · rw [if_neg (not_not_intro hc)]
    by_cases hm : s.packetByte 2 = Config.pktMarker
    · rw [if_neg (not_not_intro hm)]
      by_cases hn : s.packetByte 3 = Config.pktCount
      · rw [if_neg (not_not_intro hn)]
        exact .inr (.inr (.inr (.inr ⟨hl', hc, hm, hn, rfl⟩)))
      · rw [if_pos hn]
        exact .inr (.inr (.inr (.inl ⟨hl', hc, hm, hn, rfl⟩)))
    · rw [if_pos hm]
      exact .inr (.inr (.inl ⟨hl', hc, hm, rfl⟩))
  · rw [if_pos hc]
    exact .inr (.inl ⟨hl', hc, rfl⟩)

/-- A packet byte that is written is that byte, whatever the free value is (42_validator.md R182). -/
theorem State.packetByte_of_read {s : State} {i : Nat} {b : Byte} (h : s.rxbuf.read i = some b) :
    s.packetByte i = b := by
  simp [State.packetByte, h]

/-- The checked bytes of a written packet, whatever the free values are (42_validator.md R182, R183). -/
theorem State.checkedBytes_of_read {s : State} {p : Nat → Byte}
    (h : ∀ i, i < 12 → s.rxbuf.read i = some (p i)) : s.checkedBytes = (List.range 12).map p :=
  Memory.bytesFrom_eq _ _ _ _ p fun i hi => by simpa using h i hi

/-- What a delivery leaves in the buffer (41_framer.md R152). -/
theorem State.deliver_read (m : Nat) (s : State) (j : Nat) :
    (s.deliver m).rxbuf.read j = if j < min s.fifo.length m then s.fifo[j]? else s.rxbuf.read j := by
  have hl : (s.fifo.take (min s.fifo.length m)).length = min s.fifo.length m := by
    simp [List.length_take]
  simp only [State.deliver, Memory.read_writeBytes, hl, Nat.zero_add, Nat.zero_le, true_and, Nat.sub_zero]
  split
  · rename_i h
    rw [List.getElem?_take, if_pos h]
  · rfl

/-- A delivery keeps the canonical form: it writes at most `RXBUF_SIZE` bytes (41_framer.md R152). -/
theorem State.deliver_wf (m : Nat) (s : State) (hm : m ≤ Config.rxbufSize) (h : s.rxbuf.wf = true) :
    (s.deliver m).rxbuf.wf = true :=
  Memory.wf_writeBytes _ _ _ (by simp only [List.length_take]; omega) h

end Sys2Proof.Machine
end

