-- ==== Sys2Proof/Laws/Events.lean ====
section
/-! SUPPORT. What each event can do, said once: if it answers a next state, then its enabling condition held and the next
state is the one its rule gives (41_framer.md R144 to R155). -/

namespace Sys2Proof.Machine

theorem eventOpenOk_next {s t : State} (h : eventOpenOk s = .next t) :
    s.pend = .opening ∧ t = s.openSession.setPend .settling := by
  simp only [eventOpenOk] at h
  split at h
  · exact ⟨by assumption, by cases h; rfl⟩
  · cases h

theorem eventOpenFail_next {s t : State} (h : eventOpenFail s = .next t) :
    s.pend = .opening ∧ t = s.connFault .openFailed := by
  simp only [eventOpenFail] at h
  split at h
  · exact ⟨by assumption, by cases h; rfl⟩
  · cases h

theorem eventSettleDone_next {s t : State} (h : eventSettleDone s = .next t) :
    s.pend = .settling ∧ t = s.complete .ok .none := by
  simp only [eventSettleDone] at h
  split at h
  · exact ⟨by assumption, by cases h; rfl⟩
  · cases h

theorem eventTx_next {s t : State} (h : eventTx s = .next t) :
    ∃ k, s.pend = .sending k ∧
      ((k = 3 ∧ t = (s.emitTx (Config.reqFrame k)).complete .ok .none) ∨
        (k ≠ 3 ∧ t = (s.emitTx (Config.reqFrame k)).setPend (.sending (k + 1)))) := by
  simp only [eventTx] at h
  split at h <;> cases h
  rename_i k hk
  refine ⟨k, hk, ?_⟩
  by_cases e : k = 3
  · exact .inl ⟨e, if_pos e⟩
  · exact .inr ⟨e, if_neg e⟩

theorem eventWrTimeout_next {s t : State} (h : eventWrTimeout s = .next t) :
    ∃ k, s.pend = .sending k ∧ t = s.lineCommandFault .writeFailed := by
  simp only [eventWrTimeout] at h
  split at h <;> cases h
  exact ⟨_, by assumption, rfl⟩

theorem eventRdDone_next {s t : State} (h : eventRdDone s = .next t) :
    ∃ m, s.pend = .reading m ∧ 1 ≤ s.fifo.length ∧ t = (s.deliver m).complete .ok .none := by
  simp only [eventRdDone] at h
  split at h
  · split at h <;> cases h
    exact ⟨_, by assumption, by assumption, rfl⟩
  all_goals cases h

theorem eventRdTimeout_next {s t : State} (h : eventRdTimeout s = .next t) :
    ∃ m, s.pend = .reading m ∧ s.fifo.length = 0 ∧ t = (s.setRxlen 0).complete .ok .none := by
  simp only [eventRdTimeout] at h
  split at h
  · split at h <;> cases h
    exact ⟨_, by assumption, by assumption, rfl⟩
  all_goals cases h

theorem eventRx_next {b : Byte} {s t : State} (h : eventRx b s = .next t) :
    (s.sess = .opened ∧ s.fifo.length < s.params.rxFifoDepth ∧ t = s.queueByte b) ∨
    (s.sess = .opened ∧ s.params.rxFifoDepth ≤ s.fifo.length ∧ t = s.markOverflow) ∨
    (s.sess = .closed ∧ t = s) := by
  simp only [eventRx, Host.Outcome.next.injEq] at h
  split at h
  · split at h
    · exact .inl ⟨by assumption, by assumption, h.symm⟩
    · exact .inr (.inl ⟨by assumption, by omega, h.symm⟩)
  · rename_i hs
    refine .inr (.inr ⟨?_, h.symm⟩)
    cases e : s.sess
    · rfl
    · exact absurd e hs

theorem eventLineFault_next {s t : State} (h : eventLineFault s = .next t) :
    s.sess = .opened ∧
      ((∃ k, s.pend = .sending k ∧ t = s.lineCommandFault .writeFailed) ∨
        (∃ m, s.pend = .reading m ∧ t = (s.setRxlen 0).lineCommandFault .readFailed) ∨
        ((s.pend = .none ∨ s.pend = .settling) ∧ t = s.markLineErr)) := by
  simp only [eventLineFault] at h
  split at h
  · refine ⟨by assumption, ?_⟩
    split at h <;> cases h
    · exact .inl ⟨_, by assumption, rfl⟩
    · exact .inr (.inl ⟨_, by assumption, rfl⟩)
    · exact .inr (.inr ⟨.inl (by assumption), rfl⟩)
    · exact .inr (.inr ⟨.inr (by assumption), rfl⟩)
  · cases h

theorem eventRst_next {s t : State} (h : eventRst s = .next t) : t = s.resetBlock := by
  cases h
  rfl

end Sys2Proof.Machine
end

