-- ==== Sys2Proof/Laws/PerInstr.lean ====
section
/-! SUPPORT. One family of statements per command: the word of a command whose operand is in range is legal
(30_encoding.md R93, R94). -/

namespace Sys2Proof.Laws.EncodingIsLegal

/-- The encoder writes legal words only. -/
def Statement (i : Instr) : Prop := i.wellFormed = true → legal (encode i) = true

theorem crcInit : Statement .crcInit := fun _ => by simp [encode, legal_eq]

theorem crcUpdate (b : Byte) : Statement (.crcUpdate b) := fun _ => by simp [encode, legal_eq]

theorem portOpen : Statement .portOpen := fun _ => by simp [encode, legal_eq]

theorem portClose : Statement .portClose := fun _ => by simp [encode, legal_eq]

theorem reqSend : Statement .reqSend := fun _ => by simp [encode, legal_eq]

theorem respRead (maxLen : Nat) : Statement (.respRead maxLen) := fun _ => by simp [encode, legal_eq]

theorem pktValidate : Statement .pktValidate := fun _ => by simp [encode, legal_eq]

end Sys2Proof.Laws.EncodingIsLegal
end

