-- ==== Sys2Proof/Laws/Step.lean ====
section
/-! SUPPORT. What a host access, an event and a step can do, said once. -/

namespace Sys2Proof.Machine

/-! ### The meanings -/

theorem exec_crcInit (s : State) : exec .crcInit s = .next (s.issue (State.setAcc Config.crcInitValue)) := rfl

theorem exec_crcUpdate (b : Byte) (s : State) :
    exec (.crcUpdate b) s = .next (s.issue fun t => t.setAcc (crc8Step t.acc b)) := rfl

theorem exec_portOpen (s : State) : exec .portOpen s = .next (s.issue fun t => t.teardown.setPend .opening) := rfl

theorem exec_portClose (s : State) : exec .portClose s = .next s.accept.discardPending.teardown := rfl

theorem exec_reqSend (s : State) : exec .reqSend s = .next (s.issue State.sendRequest) := rfl

theorem exec_respRead (n : Nat) (s : State) : exec (.respRead n) s = .next (s.issue (State.readResponse n)) := rfl

theorem exec_pktValidate (s : State) : exec .pktValidate s = .next (s.issue State.validate) := rfl

/-- Everything a command can do: it is dropped, or it is accepted (30_encoding.md R96). -/
theorem exec_cases (i : Instr) {s t : State} (h : exec i s = .next t) :
    (s.pend ≠ .none ∧ i ≠ .portClose ∧ t = s.dropCommand) ∨
    (i = .portClose ∧ t = s.accept.discardPending.teardown) ∨
    (s.pend = .none ∧
      ((i = .crcInit ∧ t = s.accept.setAcc Config.crcInitValue) ∨
        (∃ b, i = .crcUpdate b ∧ t = s.accept.setAcc (crc8Step s.acc b)) ∨
        (i = .portOpen ∧ t = s.accept.teardown.setPend .opening) ∨
        (i = .reqSend ∧ t = s.accept.sendRequest) ∨
        (∃ n, i = .respRead n ∧ t = s.accept.readResponse n) ∨
        (i = .pktValidate ∧ t = s.accept.validate))) := by
  cases i with
  | portClose =>
    cases h
    exact .inr (.inl ⟨rfl, rfl⟩)
  | _ =>
    by_cases hp : s.pend = .none
    · simp only [exec_crcInit, exec_crcUpdate, exec_portOpen, exec_reqSend, exec_respRead, exec_pktValidate,
        State.issue_idle _ hp, Host.Outcome.next.injEq] at h
      subst h
      simp [hp]
    · simp only [exec_crcInit, exec_crcUpdate, exec_portOpen, exec_reqSend, exec_respRead, exec_pktValidate,
        State.issue_busy _ hp, Host.Outcome.next.injEq] at h
      subst h
      simp [hp]

/-! ### The host's port -/

/-- The accesses of the interface (20_memory.md R63, R64). -/
theorem accessRefusal_eq_none (width : AccessWidth) (off : Nat) :
    accessRefusal width off = none ↔ width = .word ∧ off % 4 = 0 ∧ off < 0x200 := by
  simp only [accessRefusal]
  split
  · simp [*]
  · split
    · simp [*]
    · split
      · simp
        omega
      · simp_all

/-- A register read changes the model's own fields alone (20_memory.md R61). -/
theorem State.regRead_cases (off : Nat) (s : State) :
    (∃ v, s.regValue off = some v ∧ s.regRead off = s.returnToHost v) ∨
    (s.regValue off = none ∧ s.regRead off = (s.returnToHost (Config.unspecifiedWord s.fresh)).drawFresh) := by
  simp only [State.regRead]
  split <;> rename_i h
  · exact .inl ⟨_, h, rfl⟩
  · exact .inr ⟨h, rfl⟩

/-- Everything a write to `CMD` can do (30_encoding.md R96). -/
theorem writeCommand_next {w : Word} {s t : State} (h : writeCommand w s = .next t) :
    (∃ i, decode w = .command i ∧ exec i s = .next t) ∨
    (∃ r, decode w = .illegal r ∧
      ((s.pend ≠ .none ∧ t = s.dropCommand) ∨ (s.pend = .none ∧ t = s.accept.illegalCommand))) := by
  simp only [writeCommand] at h
  split at h
  · exact .inl ⟨_, by assumption, h⟩
  · refine .inr ⟨_, by assumption, ?_⟩
    cases h
    simpa only [State.illegalWrite] using State.issue_cases State.illegalCommand s

/-- Everything a host access can do (20_memory.md R61 to R64). -/
theorem hostAccess_next {a : HostAccess} {s t : State} (h : hostAccess a s = .next t) :
    (∃ off, a = .read .word off ∧ off % 4 = 0 ∧ off < 0x200 ∧ t = s.regRead off) ∨
    (∃ off v, a = .write .word off v ∧ off ≠ 0 ∧ t = s) ∨
    (∃ w, a = .write .word 0 w ∧ writeCommand w s = .next t) := by
  cases a with
  | read width off =>
    simp only [hostAccess] at h
    split at h
    · cases h
    · cases h
      rename_i hn
      obtain ⟨rfl, h4, hr⟩ := (accessRefusal_eq_none _ _).mp hn
      exact .inl ⟨off, rfl, h4, hr, rfl⟩
  | write width off v =>
    simp only [hostAccess, regWrite] at h
    split at h
    · cases h
    · rename_i hn
      obtain ⟨rfl, h4, hr⟩ := (accessRefusal_eq_none _ _).mp hn
      split at h
      · rename_i e
        subst e
        exact .inr (.inr ⟨v, rfl, h⟩)
      · cases h
        exact .inr (.inl ⟨off, v, rfl, by assumption, rfl⟩)

@[simp] theorem performEvent_cmdWrite (w : Word) (s : State) : performEvent (cmdWrite w) s = writeCommand w s := rfl

/-! ### Events and steps -/

/-- An event that cannot happen leaves the state as it is (log 2). -/
theorem State.occur_cases (e : Event) (s : State) :
    performEvent e s = .next (s.occur e) ∨ (s.occur e = s ∧ ∀ t, performEvent e s ≠ .next t) := by
  cases h : performEvent e s <;> simp [State.occur, h]

theorem State.occur_of_next {e : Event} {s t : State} (h : performEvent e s = .next t) : s.occur e = t := by
  simp [State.occur, h]

/-- A step with an announced event is that event (log 1). -/
theorem step_announced {s : State} {e : Event} {rest : List Event} (h : s.script = e :: rest) :
    step s = performEvent e (s.announced rest) := by
  simp [step, h]

/-- A step with no announced event is a free choice of the agents (log 1). -/
theorem step_free {s : State} (h : s.script = []) : step s = .next s.freeEvent := by
  simp [step, h]

/-- Everything a step can do: an event happens, or the free choice cannot happen and only the model's counter moves. -/
theorem step_cases {s t : State} (h : step s = .next t) :
    (∃ e rest, s.script = e :: rest ∧ performEvent e (s.announced rest) = .next t) ∨
    (s.script = [] ∧ performEvent (Config.environment s.fresh) s.drawFresh = .next t) ∨
    (s.script = [] ∧ t = s.drawFresh) := by
  rcases hs : s.script with _ | ⟨e, rest⟩
  · rw [step_free hs, Host.Outcome.next.injEq] at h
    subst h
    rcases State.occur_cases (Config.environment s.fresh) s.drawFresh with c | c
    · exact .inr (.inl ⟨rfl, c⟩)
    · exact .inr (.inr ⟨rfl, c.1⟩)
  · rw [step_announced hs] at h
    exact .inl ⟨e, rest, rfl, h⟩

end Sys2Proof.Machine
end

