-- ==== Sys2Proof/Tests/Slice0.lean ====
section
/-! SUPPORT. The model's own tests. Expected values are those of 95_test_vectors.md (the vector is named) or are worked out
by hand from the rule named. The second part holds, for each statement with hypotheses, a state and operands that meet
them (`witness_<statement>`). -/

namespace Sys2Proof.Tests

open Sys2Proof Sys2Proof.Machine

set_option maxRecDepth 4000

/-! ### Small states -/

/-- "Open, settled" (95_test_vectors.md section 3.2). -/
def settled : State := { State.reset with sess := .opened }

/-- `F2`: an open attempt is pending. -/
def opening : State := { State.reset with pend := .opening }

/-- `F3`: the attempt has succeeded. -/
def settling : State := { settled with pend := .settling }

/-- `F8`, `k` bytes on: a send is pending. -/
def sending (k : Fin 4) : State := { settled with pend := .sending k }

/-- A read of at most `m` bytes is pending. -/
def reading (m : Nat) (fifo : List Byte) : State := { settled with pend := .reading m, fifo := fifo }

/-- `F13`: the line broke while nothing was pending. -/
def broken : State := { settled with lineErr := true }

/-- The packet bytes `G` with others at 2, 3 and 12. -/
def packet (marker count trailer : Byte) : List Byte :=
  [0x00#8, 0x00#8, marker, count, 0x09#8, 0xC4#8, 0#8, 0#8, 0#8, 0#8, 0#8, 0#8, trailer]

/-- An open session after a read that delivered these bytes. -/
def received (bs : List Byte) : State :=
  { settled with rxbuf := Memory.writeBytes [] 0 bs, rxlen := bs.length }

/-- The outcome is a next state with the property. -/
def goesTo (o : Host.Outcome State Fault Refusal) (p : State → Bool) : Bool :=
  match o with
  | .next t => p t
  | .fault _ => false
  | .refused _ => false

/-! ### Well-formedness: the one operand check refuses what 30_encoding.md R101 refuses -/

theorem test_wellFormed_refuses_length_0 : Instr.wellFormed (.respRead 0) = false := by decide
theorem test_wellFormed_refuses_length_257 : Instr.wellFormed (.respRead 257) = false := by decide
theorem test_wellFormed_takes_both_ends :
    Instr.wellFormed (.respRead 1) = true ∧ Instr.wellFormed (.respRead 256) = true := by decide
theorem test_assembler_refuses_byte_256 : AsmLine.assemble (.crcUpdate 256) = none := by decide
theorem test_assembler_refuses_no_bytes : AsmLine.assemble (.crcBytes []) = none := by decide

/-! ### Decoding: words written bit by bit, RSV OP ARG (30_encoding.md R91 to R95) -/

theorem test_decode_crcInit : decode (0b0000000000000000#16 ++ 0b00000001#8 ++ 0b00000000#8) = .command .crcInit := by
  decide
theorem test_decode_crcUpdate :
    decode (0b0000000000000000#16 ++ 0b00000010#8 ++ 0b10101010#8) = .command (.crcUpdate 0xAA#8) := by decide
theorem test_decode_portOpen : decode (0b0000000000000000#16 ++ 0b00010000#8 ++ 0b00000000#8) = .command .portOpen := by
  decide
theorem test_decode_portClose : decode (0b0000000000000000#16 ++ 0b00010001#8 ++ 0b00000000#8) = .command .portClose := by
  decide
theorem test_decode_reqSend : decode (0b0000000000000000#16 ++ 0b00010010#8 ++ 0b00000000#8) = .command .reqSend := by
  decide
theorem test_decode_respRead :
    decode (0b0000000000000000#16 ++ 0b00010011#8 ++ 0b00001011#8) = .command (.respRead 12) := by decide
theorem test_decode_pktValidate :
    decode (0b0000000000000000#16 ++ 0b00100000#8 ++ 0b00000000#8) = .command .pktValidate := by decide

/-- E1 to E8. -/
theorem test_decode_illegal_words :
    decode 0x00000000#32 = .illegal .unknownOpcode ∧ decode 0x00000101#32 = .illegal .argNotZero ∧
    decode 0x00010100#32 = .illegal .reservedNotZero ∧ decode 0x00000300#32 = .illegal .unknownOpcode ∧
    decode 0x00001001#32 = .illegal .argNotZero ∧ decode 0x00002001#32 = .illegal .argNotZero ∧
    decode 0x0000FF00#32 = .illegal .unknownOpcode ∧ decode 0x80000200#32 = .illegal .reservedNotZero := by decide

theorem test_decodeTableWord :
    decodeTableWord 32 0x00001303 = some (.respRead 4) ∧ decodeTableWord 32 0x00001001 = none := by decide

/-- P1, line 2, placed as the very next step after reset. -/
theorem test_withFetchWord_runs_the_command :
    goesTo (step (State.reset.withFetchWord 32 0x000002AA)) (fun t => t.acc == 0xD1#8 && t.script == []) = true := by
  decide

/-! ### The commands, one step each -/

/-- Section 2.4. -/
theorem test_crcInit_clears :
    goesTo (exec .crcInit { State.reset with acc := 0x5E#8 }) (fun t => t.acc == 0#8 && t.statusWord == 0#32) = true := by
  decide

/-- Section 2.4, last row. -/
theorem test_crcInit_dropped_while_busy :
    goesTo (exec .crcInit { opening with acc := 0x5E#8 })
      (fun t => t.acc == 0x5E#8 && t.statusWord == 0x00000005#32) = true := by
  decide

/-- Section 2.2. -/
theorem test_crcUpdate_0x34_on_0x12 :
    goesTo (exec (.crcUpdate 0x34#8) { State.reset with acc := 0x12#8 }) (fun t => t.acc == 0xFE#8) = true := by decide

/-- Section 2.2. -/
theorem test_crcUpdate_0x80_on_0 :
    goesTo (exec (.crcUpdate 0x80#8) State.reset) (fun t => t.acc == 0x8C#8) = true := by decide

/-- F2. -/
theorem test_portOpen_waits :
    goesTo (exec .portOpen State.reset) (fun t => t.statusWord == 0x00000001#32 && t.pend == .opening) = true := by decide

/-- F24. -/
theorem test_portOpen_empties_the_fifo :
    goesTo (exec .portOpen { settled with fifo := [1#8, 2#8, 3#8] })
      (fun t => t.fifo == [] && t.statusWord == 0x00000001#32) = true := by decide

/-- F21. -/
theorem test_portClose_discards_a_read :
    goesTo (exec .portClose { reading 256 [] with rxlen := 13 })
      (fun t => t.rxlen == 0 && t.statusWord == 0x00000008#32) = true := by decide

/-- F11: what was sent stays sent. -/
theorem test_portClose_discards_a_send :
    goesTo (exec .portClose { sending 2 with txlog := [0xAA#8, 0x02#8] })
      (fun t => t.txlog == [0xAA#8, 0x02#8] && t.statusWord == 0x00000008#32) = true := by decide

/-- F8. -/
theorem test_reqSend_starts :
    goesTo (exec .reqSend settled) (fun t => t.statusWord == 0x00000003#32 && t.pend == .sending 0) = true := by decide

/-- F14. -/
theorem test_reqSend_on_a_broken_line :
    goesTo (exec .reqSend broken) (fun t => t.statusWord == 0x00002100#32 && t.txlog == []) = true := by decide

/-- F15. -/
theorem test_respRead_on_a_broken_line :
    goesTo (exec (.respRead 256) { broken with rxlen := 13 })
      (fun t => t.statusWord == 0x00003100#32 && t.rxlen == 0) = true := by decide

/-- E15. -/
theorem test_respRead_on_a_closed_session :
    goesTo (exec (.respRead 1) State.reset) (fun t => t.statusWord == 0x00004100#32) = true := by decide

/-- V5. -/
theorem test_pktValidate_accepts :
    goesTo (exec .pktValidate (received (packet 0x20#8 0x04#8 0xF7#8)))
      (fun t => t.vresultWord == 0x00F7F701#32 && t.reading == 0x0003D090#32 && t.statusWord == 0x00000012#32) = true := by
  decide

/-- V13: the marker is checked before the count. -/
theorem test_pktValidate_checks_the_marker_first :
    goesTo (exec .pktValidate (received (packet 0x21#8 0x05#8 0x9D#8)))
      (fun t => t.vresultWord == 0x219D9D04#32 && t.reading == 0#32 && t.statusWord == 0x00000002#32) = true := by
  decide

/-! ### The events, one step each -/

/-- F5. -/
theorem test_openFail : goesTo (performEvent .openFail opening) (fun t => t.statusWord == 0x00001100#32) = true := by
  decide

/-- F9, the last of the four. -/
theorem test_tx_completes :
    goesTo (performEvent .tx (sending 3)) (fun t => t.txlog == [0x2E#8] && t.statusWord == 0x00000002#32) = true := by
  decide

/-- F17. -/
theorem test_rdDone_is_partial :
    goesTo (performEvent .rdDone (reading 4 (packet 0x20#8 0x04#8 0xF7#8)))
      (fun t => t.rxlen == 4 && t.fifo.length == 9 && t.rxbufWord 0 == some 0x04200000#32 && t.rxbufWord 1 == none)
      = true := by decide

/-- F7: a byte that arrives on a closed session is lost. -/
theorem test_rx_closed : goesTo (performEvent (.rx 0x55#8) opening) (fun t => t.fifo == []) = true := by decide

/-- F22, on an instance whose FIFO holds one byte. -/
theorem test_rx_full :
    goesTo (performEvent (.rx 7#8) { settled with params := ⟨1⟩, fifo := [0#8] })
      (fun t => t.fifo == [0#8] && t.statusWord == 0x00000022#32) = true := by decide

/-- F12. -/
theorem test_lineFault_ends_a_send :
    goesTo (performEvent .lineFault (sending 1)) (fun t => t.statusWord == 0x00002100#32) = true := by decide

/-- M1, M2, M8. -/
theorem test_register_reads :
    State.reset.regValue 0x000 = some 0#32 ∧ State.reset.regValue 0x0FC = some 0#32 ∧
    State.reset.regValue 0x018 = some 0x2E2002AA#32 ∧ State.reset.regValue 0x01C = some 0x04200D8C#32 ∧
    State.regValue (received (packet 0x20#8 0x04#8 0xF7#8)) 0x104 = some 0x0000C409#32 ∧
    State.regValue (received (packet 0x20#8 0x04#8 0xF7#8)) 0x10C = none := by decide

/-- M6. -/
theorem test_refused_accesses :
    accessRefusal .word 0x006 = some .misalignedAccess ∧ accessRefusal .byte 0x004 = some .narrowAccess ∧
    accessRefusal .word 0x200 = some .outsideAccess ∧ accessRefusal .word 0x1FC = none := by decide

/-- 30_encoding.md R101, R102. -/
theorem test_assembler_text :
    (parseAsmLine "crc.bytes 0xAA, 0x02, 0x20").bind AsmLine.assemble =
      some [.crcInit, .crcUpdate 0xAA#8, .crcUpdate 0x02#8, .crcUpdate 0x20#8] ∧
    (parseAsmLine "resp.readall").bind AsmLine.assemble = some [.respRead 256] ∧
    (parseAsmLine "resp.read 257").bind AsmLine.assemble = none := by decide

/-! ### Witnesses: the hypotheses of the statements can be met, at the ends of each range and in each clause -/

/-- The bytes of a list as the packet bytes `p i` of the validator's statements. -/
def bytesOf (bs : List Byte) (i : Nat) : Byte := bs.getD i 0#8

/-- The 13 bytes are in the buffer. -/
def holds (s : State) (p : Nat → Byte) : Bool :=
  (List.range 13).all fun i => s.rxbuf.read i == some (p i)

theorem holds_iff {s : State} {p : Nat → Byte} (h : holds s p = true) : ∀ i, i < 13 → s.rxbuf.read i = some (p i) := by
  simpa [holds] using h

theorem witness_DecodeOfEncodedCommand :
    [Instr.crcInit, .crcUpdate 0#8, .crcUpdate 0xFF#8, .portOpen, .portClose, .reqSend, .respRead 1, .respRead 256,
      .pktValidate].all Instr.wellFormed = true := by decide

theorem witness_EncodeOfDecodedWord :
    decode 0x000002FF#32 = .command (.crcUpdate 0xFF#8) ∧ decode 0x00001300#32 = .command (.respRead 1) ∧
    decode 0x000013FF#32 = .command (.respRead 256) := by decide

theorem witness_CommandsAreTheLegalWords :
    decode 0x00000200#32 = .command (.crcUpdate 0#8) ∧ decode 0x00002000#32 = .command .pktValidate ∧
    (∀ i, decode 0x00001400#32 ≠ .command i) := by
  refine ⟨by decide, by decide, fun i h => ?_⟩
  rw [show decode 0x00001400#32 = .illegal .unknownOpcode by decide] at h
  cases h

theorem witness_StepRunsTheDecodedCommand :
    ({ settled with script := [cmdWrite 0x000013FF#32] } : State).script = .host (.write .word 0x000 0x000013FF#32) :: [] ∧
    decode 0x000013FF#32 = .command (.respRead 256) ∧ decode 0x00000001#32 = .illegal .unknownOpcode ∧
    decodeTableWord 32 0x000013FF = some (.respRead 256) := by decide

theorem witness_UnannouncedStepIsAFreeEvent : State.reset.script = [] := rfl

theorem witness_BusyBlockDropsEveryWordButClose :
    (opening.pend ≠ .none ∧ 0x00001101#32 ≠ 0x00001100#32) ∧
    goesTo (performEvent (.host (.write .word 0x000 0x00001100#32)) { opening with rejBusy := true })
      (fun t => !t.rejBusy) = true ∧
    goesTo (performEvent .rst { opening with rejBusy := true }) (fun t => !t.rejBusy) = true ∧
    goesTo (performEvent (.host (.write .word 0x000 0x00000000#32)) { State.reset with rejBusy := true })
      (fun t => !t.rejBusy) = true := by decide

theorem witness_IllegalWordCompletesWithIllegalCmd :
    State.reset.pend = .none ∧ (0x80000200#32).extractLsb' 16 16 ≠ 0#16 ∧
    (0x00000300#32).extractLsb' 8 8 ∉ [0x01#8, 0x02#8, 0x10#8, 0x11#8, 0x12#8, 0x13#8, 0x20#8] ∧
    ((0x00002001#32).extractLsb' 8 8 ∈ [0x01#8, 0x10#8, 0x11#8, 0x12#8, 0x20#8] ∧
      (0x00002001#32).extractLsb' 0 8 ≠ 0#8) := by decide

theorem witness_RejBusyAndAbortedFollowAcceptance :
    goesTo (performEvent (.host (.write .word 0x000 0x00001100#32)) opening) (fun t => t.aborted) = true ∧
    goesTo (performEvent (.host (.write .word 0x000 0x00001100#32)) State.reset) (fun t => !t.aborted) = true ∧
    goesTo (performEvent (.host (.write .word 0x000 0x00001200#32)) opening) (fun t => t.rejBusy) = true ∧
    goesTo (performEvent .rst opening) (fun _ => true) = true ∧
    goesTo (performEvent .openOk opening) (fun _ => true) = true := by decide

theorem witness_CrcInitClearsTheAccumulator :
    State.reset.pend = .none ∧ opening.pend ≠ .none ∧ (0x00000101#32).extractLsb' 8 8 = 0x01#8 ∧
    0x00000101#32 ≠ 0x00000100#32 := by decide

theorem witness_CrcUpdateTakesOneByte :
    State.reset.pend = .none ∧ opening.pend ≠ .none ∧ (0x80000200#32).extractLsb' 8 8 = 0x02#8 ∧
    (0x80000200#32).extractLsb' 16 16 ≠ 0#16 ∧
    exec (.crcUpdate 0x2E#8) { State.reset with acc := 0x2E#8 } = .next State.reset := by
  refine ⟨by decide, by decide, by decide, by decide, rfl⟩

theorem witness_CrcOfASequenceOfUpdates : State.reset.pend = .none := rfl

theorem witness_AccumulatorWrittenOnlyByCrcCommands :
    goesTo (performEvent .rst { opening with acc := 1#8 }) (fun t => t.acc != 1#8) = true ∧
    goesTo (performEvent (cmdWrite 0x00000100#32) { State.reset with acc := 1#8 }) (fun t => t.acc != 1#8) = true ∧
    goesTo (performEvent (cmdWrite 0x000002FF#32) State.reset) (fun t => t.acc != 0#8) = true := by decide

theorem witness_FramerAndValidatorIgnoreTheAccumulator :
    Instr.pktValidate ≠ .crcInit ∧ (∀ b, Instr.pktValidate ≠ .crcUpdate b) ∧
    goesTo (exec .pktValidate settled) (fun _ => true) = true :=
  ⟨by decide, fun _ h => (by cases h), by decide⟩

theorem witness_PortOpenTearsDownAndWaits : broken.pend = .none ∧ opening.pend ≠ .none := by decide

theorem witness_PortCloseEndsWhateverIsPending :
    broken.pend = .none ∧ opening.pend ≠ .none ∧ (∀ m, opening.pend ≠ .reading m) ∧
    (reading 256 []).pend = .reading 256 ∧ goesTo (exec .portClose (reading 1 [])) (fun t => t.aborted) = true :=
  ⟨rfl, by decide, fun _ h => (by cases h), rfl, by decide⟩

theorem witness_ReqSendStartsOrFaults :
    (settled.pend = .none ∧ settled.sess = .opened ∧ settled.lineErr = false) ∧
    (State.reset.pend = .none ∧ State.reset.sess = .closed) ∧
    (broken.pend = .none ∧ broken.sess = .opened ∧ broken.lineErr = true) ∧ (sending 3).pend ≠ .none := by decide

theorem witness_RespReadStartsOrFaults :
    (1 ≤ 1 ∧ 256 ≤ 256) ∧ (settled.pend = .none ∧ settled.sess = .opened ∧ settled.lineErr = false) ∧
    (State.reset.pend = .none ∧ State.reset.sess = .closed) ∧
    (broken.pend = .none ∧ broken.sess = .opened ∧ broken.lineErr = true) ∧ (reading 1 []).pend ≠ .none := by decide

theorem witness_OpenAttemptEvents :
    opening.pend = .opening ∧ settling.pend = .settling ∧ settling.pend ≠ .opening ∧ opening.pend ≠ .settling := by decide

theorem witness_TransmissionEvents :
    (∀ k, (sending k).pend = .sending k) ∧ (∀ k, settling.pend ≠ .sending k) := by decide

theorem witness_ReadDoneDeliversInOrder :
    (reading 1 [7#8, 8#8]).pend = .reading 1 ∧ 1 ≤ (reading 1 [7#8, 8#8]).fifo.length ∧
    (reading 256 [7#8]).pend = .reading 256 ∧ 1 ≤ (reading 256 [7#8]).fifo.length ∧ (reading 256 []).fifo = [] ∧
    (sending 3).pend ≠ .reading 1 := by decide

theorem witness_ReadTimeoutReturnsNothing :
    (reading 256 []).pend = .reading 256 ∧ (reading 256 []).fifo = [] ∧ (reading 256 [7#8]).fifo ≠ [] := by decide

theorem witness_ReceivedByteIsQueuedOrLost :
    (settled.sess = .opened ∧ settled.fifo.length < settled.params.rxFifoDepth) ∧
    (({ settled with params := ⟨2⟩, fifo := [0#8] } : State).fifo.length < 2) ∧
    (({ settled with params := ⟨1⟩, fifo := [0#8] } : State).params.rxFifoDepth ≤ 1) ∧
    State.reset.sess = .closed := by decide

theorem witness_LineFaultIsReportedOrRecorded :
    ((sending 3).sess = .opened ∧ (sending 3).pend = .sending 3) ∧
    ((reading 256 []).sess = .opened ∧ (reading 256 []).pend = .reading 256) ∧
    (settled.sess = .opened ∧ settled.pend = .none) ∧ (settling.sess = .opened ∧ settling.pend = .settling) ∧
    opening.sess = .closed := by decide

theorem witness_SessionOpensOnlyAtOpenOk :
    (opening.sess = .closed ∧ goesTo (performEvent .openOk opening) (fun t => t.isOpen) = true) ∧
    settled.sess = .opened ∧ goesTo (performEvent .rst settled) (fun t => !t.isOpen) = true ∧
    goesTo (performEvent (cmdWrite 0x00001000#32) settled) (fun t => !t.isOpen) = true ∧
    goesTo (performEvent (cmdWrite 0x00001100#32) settled) (fun t => !t.isOpen) = true ∧
    goesTo (performEvent .wrTimeout (sending 0)) (fun t => !t.isOpen) = true ∧
    goesTo (performEvent (cmdWrite 0x00001300#32) broken) (fun t => !t.isOpen) = true := by decide

theorem witness_RequestFrameIsSentInOrder :
    settled.pend = .none ∧ settled.sess = .opened ∧ settled.lineErr = false ∧
    [Event.tx, .rx 5#8, .tx, .tx, .tx].count .tx = 4 := by decide

theorem witness_TransmitLogGrowsByFrameBytesOnly :
    goesTo (performEvent .tx (sending 3)) (fun _ => true) = true ∧
    goesTo (performEvent .rst (sending 3)) (fun _ => true) = true := by decide

theorem witness_ArrivedResponseIsReadWhole :
    ({ settled with fifo := packet 0x20#8 0x04#8 0xF7#8 } : State).fifo = packet 0x20#8 0x04#8 0xF7#8 ++ [] ∧
    (packet 0x20#8 0x04#8 0xF7#8).length = 13 ∧ settled.pend = .none ∧ settled.sess = .opened ∧
    settled.lineErr = false := by decide

theorem witness_FifoIsAStreamWithoutResynchronisation :
    goesTo (performEvent (.rx 1#8) settled) (fun t => t.fifo == [1#8]) = true ∧
    goesTo (performEvent .rdDone (reading 1 [7#8, 8#8])) (fun t => t.fifo == [8#8]) = true ∧
    goesTo (performEvent .wrTimeout { sending 0 with fifo := [7#8] }) (fun t => t.fifo == []) = true := by decide

theorem witness_ResponseChangesOnlyWhenAReadEnds :
    goesTo (performEvent .rdDone (reading 1 [7#8])) (fun t => t.rxbuf != [] && t.rxlen != 0) = true ∧
    goesTo (performEvent (cmdWrite 0x00001300#32) { State.reset with rxlen := 13 }) (fun t => t.rxlen != 13) = true ∧
    goesTo (performEvent .rst (received [7#8])) (fun t => t.rxbuf != [(0, 7#8)]) = true := by decide

theorem witness_ShortResponseIsTooShort :
    ((received ((packet 0x20#8 0x04#8 0xF7#8).take 12)).pend = .none ∧
      (received ((packet 0x20#8 0x04#8 0xF7#8).take 12)).rxlen = 12) ∧
    opening.pend ≠ .none := by decide

/-- V5, V9, V11 and V12: one packet for each case, with a response of exactly 13 bytes. -/
theorem witness_PacketIsJudgedByTheRulesInOrder :
    ∀ bs ∈ [packet 0x20#8 0x04#8 0xF7#8, packet 0x20#8 0x04#8 0xF6#8, packet 0x21#8 0x04#8 0x39#8,
        packet 0x20#8 0x05#8 0x53#8],
      (received bs).pend = .none ∧ 13 ≤ (received bs).rxlen ∧ ∀ i, i < 13 → (received bs).rxbuf.read i = some (bytesOf bs i) := by
  intro bs h
  have : ∀ bs ∈ [packet 0x20#8 0x04#8 0xF7#8, packet 0x20#8 0x04#8 0xF6#8, packet 0x21#8 0x04#8 0x39#8,
      packet 0x20#8 0x05#8 0x53#8], (received bs).rxlen = 13 ∧ holds (received bs) (bytesOf bs) = true := by decide
  exact ⟨rfl, (this bs h).1.ge, holds_iff (this bs h).2⟩

/-- V8: the largest reading. -/
theorem witness_WellFormedPacketGivesItsReading :
    ∃ (s : State) (p : Nat → Byte), s.pend = .none ∧ 13 ≤ s.rxlen ∧ (∀ i, i < 13 → s.rxbuf.read i = some (p i)) ∧
      p 2 = 0x20#8 ∧ p 3 = 0x04#8 ∧ p 12 = crc8 ((List.range 12).map p) :=
  let bs := [0#8, 0#8, 0x20#8, 0x04#8, 0xFF#8, 0xFF#8, 0#8, 0#8, 0#8, 0#8, 0#8, 0#8, 0xE1#8]
  ⟨received bs, bytesOf bs, rfl, by decide, holds_iff (by decide), by decide, by decide, by decide⟩

/-- V9 and V10: the last byte changed, and byte 4. -/
theorem witness_OneCorruptedByteIsDetected :
    ∀ i ∈ [4, 12], ∃ (s : State) (p : Nat → Byte) (b : Byte), s.pend = .none ∧ 13 ≤ s.rxlen ∧
      p 12 = crc8 ((List.range 12).map p) ∧ i < 13 ∧ b ≠ p i ∧
      (∀ j, j < 13 → s.rxbuf.read j = some (if j = i then b else p j)) := by
  intro i h
  rcases List.mem_cons.mp h with rfl | h
  · exact ⟨received [0#8, 0#8, 0x20#8, 0x04#8, 0x08#8, 0xC4#8, 0#8, 0#8, 0#8, 0#8, 0#8, 0#8, 0xF7#8],
      bytesOf (packet 0x20#8 0x04#8 0xF7#8), 0x08#8, rfl, by decide, by decide, by decide, by decide, by decide⟩
  · obtain rfl := List.mem_singleton.mp h
    exact ⟨received (packet 0x20#8 0x04#8 0xF6#8), bytesOf (packet 0x20#8 0x04#8 0xF7#8), 0xF6#8, rfl, by decide,
      by decide, by decide, by decide, by decide⟩

theorem witness_ValidationReadsThePacketOnly :
    ∃ s u s' u' : State, s ≠ u ∧ s.pend = .none ∧ u.pend = .none ∧ (s.rxlen < 13 ↔ u.rxlen < 13) ∧
      (13 ≤ s.rxlen → ∀ i, i < 13 → s.rxbuf.read i = u.rxbuf.read i) ∧
      exec .pktValidate s = .next s' ∧ exec .pktValidate u = .next u' ∧ s'.vcode = .ok :=
  let bs := packet 0x20#8 0x04#8 0xF7#8
  ⟨received bs, { received (bs ++ [0x55#8]) with acc := 1#8, sess := .closed }, _, _, by decide, rfl, rfl, by decide,
    fun _ => by decide, rfl, rfl, by decide⟩

theorem witness_ReadingComesOnlyFromACheckedPacket :
    goesTo (exec .pktValidate (received (packet 0x20#8 0x04#8 0xF7#8))) (fun t => t.rvalid && t.reading != 0#32) = true ∧
    goesTo (performEvent .rst { State.reset with rvalid := true }) (fun t => !t.rvalid) = true := by decide

theorem witness_RegisterReadsReturnTheState :
    ({ State.reset with rxlen := 256 } : State).rxlen ≤ 256 ∧ State.reset.fifo.length ≤ 65535 ∧
    0x0FC % 4 = 0 ∧ 0x024 ≤ 0x0FC := by decide

/-- The first and the last word of the window, written and not. -/
theorem witness_RxbufWindowShowsTheBuffer :
    ((received [1#8, 2#8, 3#8, 4#8]).rxbuf.read 0 = some 1#8 ∧ (received [1#8, 2#8, 3#8, 4#8]).rxbuf.read 3 = some 4#8) ∧
    (List.range 4).map (fun i => Memory.read [(252, 1#8), (253, 2#8), (254, 3#8), (255, 4#8)] (4 * 63 + i)) =
      [some 1#8, some 2#8, some 3#8, some 4#8] ∧
    (received [1#8, 2#8, 3#8]).rxbuf.read (4 * 0 + 3) = none ∧ State.reset.rxbuf.read (4 * 63) = none := by decide

theorem witness_ReadsAndIgnoredWritesChangeNothing : 0x1FC % 4 = 0 ∧ 0x1FC < 0x200 ∧ 0x1FC ≠ 0x000 := by decide

theorem witness_OtherAccessesAreRefused : AccessWidth.byte ≠ .word ∧ 0x006 % 4 ≠ 0 ∧ 0x200 ≤ 0x200 := by decide

theorem witness_OutcomeIsKeptUntilTheNextCommand :
    State.reset.pend = .none ∧ goesTo (performEvent (.rx 1#8) State.reset) (fun _ => true) = true := by decide

theorem witness_FirstOfTwoEnabledEventsDecides :
    (reading 1 [7#8]).sess = .opened ∧ (reading 1 [7#8]).pend = .reading 1 ∧ 1 ≤ (reading 1 [7#8]).fifo.length := by
  decide

theorem witness_CloseThenCrcInitIsNotAReset : (received [7#8]).pend = .none := rfl

/-- A state with the invariant in which a fault has just been reported, and its step. -/
theorem witness_EveryStepKeepsTheInvariant :
    ∃ s t : State, Inv s ∧ step s = .next t ∧ t.cc = .connFault := by
  refine ⟨{ reading 256 [7#8] with script := [.lineFault] }, _, ⟨⟨?_, ?_, ?_, ?_, ?_⟩, ⟨?_, ?_, ?_, ?_, ?_, ?_⟩,
    ⟨?_, ?_, ?_, ?_, ?_, ?_, ?_, ?_⟩⟩, rfl, rfl⟩
  · exact fun h => by cases h
  · exact fun h => by cases h
  · exact fun _ _ => rfl
  · exact fun _ _ => rfl
  · exact fun h => by cases h
  · decide
  · decide
  · decide
  · exact fun i h => absurd h (Nat.not_lt_zero i)
  · decide
  · intro m h
    cases h
    decide
  · decide
  · decide
  · exact fun h => by cases h
  · exact fun h => by cases h
  · exact fun h => by cases h
  · exact ⟨0, by decide, by decide⟩
  · exact fun _ => rfl
  · exact fun h => by cases h

/-- A state with the rules of the session, not reachable (its `cc` reports a fault while a read is pending), and the step
that ends the read. -/
theorem witness_EveryStepKeepsTheSessionRules :
    ∃ s t : State, SessionInvariant s ∧ step s = .next t ∧ s.sess = .opened ∧ t.sess = .closed :=
  ⟨{ reading 256 [7#8] with cc := .connFault, script := [.lineFault] }, _,
    ⟨fun h => (by cases h), fun h => (by cases h), fun _ _ => rfl, fun _ _ => rfl, fun h => (by cases h)⟩, rfl, rfl, rfl⟩

/-- `n` steps, if none is refused. -/
def steps : Nat → State → Option State
  | 0, s => some s
  | n + 1, s =>
    match step s with
    | .next t => steps n t
    | .fault _ => none
    | .refused _ => none

/-- Steps lead from reachable states to reachable states. -/
theorem reachable_steps (n : Nat) : ∀ s t : State, Reachable s → steps n s = some t → Reachable t := by
  induction n with
  | zero =>
    intro s t hs h
    cases h
    exact hs
  | succ n ih =>
    intro s t hs h
    unfold steps at h
    split at h
    · exact ih _ _ (hs.step ‹_›) h
    · cases h
    · cases h

/-- After these announced events, all of which happen, the state has the property. -/
def announcedRun (es : List Event) (p : State → Bool) : Bool :=
  (steps es.length { State.reset with script := es }).any p

theorem announcedRun_reaches {es : List Event} {p : State → Bool} (h : announcedRun es p = true) :
    ∃ t : State, Reachable t ∧ p t = true := by
  obtain ⟨t, ht, hp⟩ := (Option.any_eq_true _ _).mp h
  exact ⟨t, reachable_steps _ _ t (.reset Config.defaultParams es (by decide)) ht, hp⟩

/-- Every premise of R142's clauses is met by a reachable state. -/
theorem witness_ReachableStatesKeepTheSessionRules :
    (∃ s, Reachable s ∧ (s.pend == .opening) = true) ∧ (∃ s, Reachable s ∧ (s.pend == .settling) = true) ∧
    (∃ s, Reachable s ∧ (s.pend == .sending 0) = true) ∧ (∃ s, Reachable s ∧ (s.pend == .reading 256) = true) :=
  ⟨announcedRun_reaches (es := [cmdWrite 0x00001000#32]) (by decide),
    announcedRun_reaches (es := [cmdWrite 0x00001000#32, .openOk]) (by decide),
    announcedRun_reaches (es := [cmdWrite 0x00001000#32, .openOk, .settleDone, cmdWrite 0x00001200#32]) (by decide),
    announcedRun_reaches (es := [cmdWrite 0x00001000#32, .openOk, .settleDone, cmdWrite 0x000013FF#32]) (by decide)⟩

/-- P2 up to its line 10: a reachable state with a whole response. -/
theorem witness_ValidationNeverReadsAnUnwrittenByte :
    ∃ s, Reachable s ∧ (13 ≤ s.rxlen : Bool) = true :=
  announcedRun_reaches
    (es := [cmdWrite 0x00001000#32, .openOk, .settleDone] ++ (packet 0x20#8 0x04#8 0xF7#8).map .rx ++
      [cmdWrite 0x000013FF#32, .rdDone])
    (by decide)

/-- A pending open attempt that the line refuses. -/
theorem witness_FairRunsEndEveryPendingCommand :
    FairSchedule (fun _ => .openFail) opening ∧ opening.pend ≠ .none := by
  have idle : ∀ n, (scheduled (fun _ => .openFail) opening (n + 1)).pend = .none := by
    intro n
    induction n with
    | zero => rfl
    | succ n ih =>
      rw [scheduled, State.occur]
      simp [performEvent, eventOpenFail, ih]
  refine ⟨fun n h => ?_, by decide⟩
  cases n with
  | zero => exact ⟨0, le_refl 0, .inr ⟨by decide, ⟨_, rfl⟩⟩⟩
  | succ n => exact absurd (idle n) h

end Sys2Proof.Tests
end

/-! # The family 00_scope.md: the step, the free choice of the agents, and the end of every pending command -/

namespace Sys2Proof

/-! ### What the decoder answers -/

/-- The operand of a decoded command is in range: of the operands only `max_len = ARG + 1` has a range to keep
(30_encoding.md R92, R101). -/
theorem decode_command_wellFormed {w : Word} {i : Instr} (h : decode w = .command i) : i.wellFormed = true := by
  obtain ⟨-, hop⟩ := decode_command h
  cases i with
  | respRead n =>
    obtain ⟨-, rfl⟩ : opField w = 0x13#8 ∧ n = maxLenOfArg (argField w) := by simpa using decodeOp_command hop
    simpa [Instr.wellFormed, maxLenOfArg] using (argField w).isLt
  | _ => rfl

/-- A command read from an opcode-table word is the one the decoder reads from its command word
(30_encoding.md R100). -/
theorem decode_tableWord {nbits n : Nat} {i : Instr} (h : decodeTableWord nbits n = some i) :
    decode (tableWord nbits n) = .command i := by
  simp only [decodeTableWord] at h
  split at h
  · split at h <;> cases h
    assumption
  · cases h

end Sys2Proof

namespace Sys2Proof.Machine

/-! ### A write to `CMD` and the step at it -/

theorem writeCommand_command {w : Word} {i : Instr} (h : decode w = .command i) (s : State) :
    writeCommand w s = exec i s := by
  simp only [writeCommand, h]

theorem writeCommand_illegal {w : Word} {r : IllegalWord} (h : decode w = .illegal r) (s : State) :
    writeCommand w s = .next s.illegalWrite := by
  simp only [writeCommand, h]

/-- A step at an announced `CMD` write is the write, on the state with the event taken off (log 1). -/
theorem step_cmdWrite {s : State} {w : Word} {rest : List Event} (h : s.script = cmdWrite w :: rest) :
    step s = writeCommand w (s.announced rest) := by
  rw [step_announced h, performEvent_cmdWrite]

/-- Putting a table word's write first and stepping is that write on the state itself (log 3). -/
theorem step_withFetchWord (s : State) (nbits n : Nat) :
    step (s.withFetchWord nbits n) = writeCommand (tableWord nbits n) s :=
  step_cmdWrite rfl

/-- Settles O5: the step at a `CMD` write is `writeCommand`, which does what the decoder's answer says. -/
theorem stepRunsTheDecodedCommand : Obligations.StepRunsTheDecodedCommand := by
  refine ⟨fun s w rest hscript => ⟨fun i hdec => ⟨decode_command_wellFormed hdec, ?_⟩, fun r hdec => ?_⟩,
    fun s nbits n i htable => ?_⟩
  · exact (step_cmdWrite hscript).trans (writeCommand_command hdec _)
  · exact (step_cmdWrite hscript).trans (writeCommand_illegal hdec _)
  · exact (step_withFetchWord s nbits n).trans (writeCommand_command (decode_tableWord htable) s)

/-- Settles O6: with an empty script the step is `freeEvent`, the occurrence of the environment's choice. -/
theorem unannouncedStepIsAFreeEvent : Obligations.UnannouncedStepIsAFreeEvent := by
  intro s hscript
  refine ⟨s.freeEvent, step_free hscript, ?_⟩
  rcases State.occur_cases (Config.environment s.fresh) s.drawFresh with hnext | ⟨hidle, hnot⟩
  · exact .inl hnext
  · exact .inr ⟨hnot, hidle⟩

/-! ### Progress of a pending command (41_framer.md R156)

The measure is how many forced events the pending command can still see. While a command is pending, every event keeps
`pend` or lowers the measure; a forced event lowers it; and it is 0 on an idle block alone. -/

/-- The most forced events that can still happen before the pending command ends. -/
def Pend.stagesLeft : Pend → Nat
  | .none => 0
  | .opening => 2
  | .settling => 1
  | .sending k => 4 - k.val
  | .reading _ => 1

theorem Pend.stagesLeft_pos {p : Pend} (h : p ≠ .none) : 0 < p.stagesLeft := by
  cases p with
  | none => exact absurd rfl h
  | sending k => exact Nat.sub_pos_of_lt k.isLt
  | opening | settling | reading => simp [Pend.stagesLeft]

theorem Pend.stagesLeft_sending_succ {k : Fin 4} (h : k ≠ 3) :
    (Pend.sending (k + 1)).stagesLeft < (Pend.sending k).stagesLeft := by
  revert k
  decide

/-- An event that leaves the block idle has ended the command that was pending. -/
theorem stagesLeft_lt_of_ended {s t : State} (hs : s.pend ≠ .none) (ht : t.pend = .none) :
    t.pend.stagesLeft < s.pend.stagesLeft := by
  rw [ht]
  exact Pend.stagesLeft_pos hs

/-- `EV_TX` transmits one of the bytes left (41_framer.md R149). -/
theorem eventTx_progress {s t : State} (h : eventTx s = .next t) : t.pend.stagesLeft < s.pend.stagesLeft := by
  obtain ⟨k, hk, ⟨-, rfl⟩ | ⟨hk3, rfl⟩⟩ := eventTx_next h
  · exact stagesLeft_lt_of_ended (by simp [hk]) rfl
  · simpa [hk] using Pend.stagesLeft_sending_succ hk3

/-- An event that some stage forces takes the pending command further wherever it happens (41_framer.md R156). -/
theorem forcedEvent_progress {p : Pend} {e : Event} {s t : State} (he : e ∈ p.forcedEvents)
    (h : performEvent e s = .next t) : t.pend.stagesLeft < s.pend.stagesLeft := by
  cases e with
  | openOk =>
    obtain ⟨hp, rfl⟩ := eventOpenOk_next h
    simp [hp, Pend.stagesLeft]
  | openFail =>
    obtain ⟨hp, rfl⟩ := eventOpenFail_next h
    exact stagesLeft_lt_of_ended (by simp [hp]) rfl
  | settleDone =>
    obtain ⟨hp, rfl⟩ := eventSettleDone_next h
    exact stagesLeft_lt_of_ended (by simp [hp]) rfl
  | tx => exact eventTx_progress h
  | wrTimeout =>
    obtain ⟨k, hp, rfl⟩ := eventWrTimeout_next h
    exact stagesLeft_lt_of_ended (by simp [hp]) rfl
  | rdDone =>
    obtain ⟨m, hp, -, rfl⟩ := eventRdDone_next h
    exact stagesLeft_lt_of_ended (by simp [hp]) rfl
  | rdTimeout =>
    obtain ⟨m, hp, -, rfl⟩ := eventRdTimeout_next h
    exact stagesLeft_lt_of_ended (by simp [hp]) rfl
  | host | rx | lineFault | rst => cases p <;> simp [Pend.forcedEvents] at he

/-- A command written to a busy block is dropped, or it is `CLOSE` and ends the pending one
(30_encoding.md R97, R98). -/
theorem exec_busy_pend {i : Instr} {s t : State} (hs : s.pend ≠ .none) (h : exec i s = .next t) :
    t.pend = s.pend ∨ t.pend = .none := by
  rcases exec_cases i h with ⟨-, -, rfl⟩ | ⟨-, rfl⟩ | ⟨hidle, -⟩
  · exact .inl (by simp)
  · exact .inr (by simp)
  · exact absurd hidle hs

/-- A host access to a busy block leaves the pending command as it is or ends it. -/
theorem hostAccess_busy_pend {a : HostAccess} {s t : State} (hs : s.pend ≠ .none) (h : hostAccess a s = .next t) :
    t.pend = s.pend ∨ t.pend = .none := by
  rcases hostAccess_next h with ⟨off, -, -, -, rfl⟩ | ⟨-, -, -, -, rfl⟩ | ⟨w, -, hw⟩
  · rcases State.regRead_cases off s with ⟨v, -, hr⟩ | ⟨-, hr⟩ <;> exact .inl (by simp [hr])
  · exact .inl rfl
  · rcases writeCommand_next hw with ⟨i, -, hi⟩ | ⟨-, -, ⟨-, rfl⟩ | ⟨hidle, -⟩⟩
    · exact exec_busy_pend hs hi
    · exact .inl (by simp)
    · exact absurd hidle hs

/-- A line fault on a busy block ends a pending send or read and is only recorded while settling (41_framer.md R155). -/
theorem eventLineFault_busy_pend {s t : State} (h : eventLineFault s = .next t) :
    t.pend = s.pend ∨ t.pend = .none := by
  obtain ⟨-, ⟨-, -, rfl⟩ | ⟨-, -, rfl⟩ | ⟨-, rfl⟩⟩ := eventLineFault_next h
  · exact .inr (by simp)
  · exact .inr (by simp)
  · exact .inl (by simp)

/-- A received byte does not touch the pending command (41_framer.md R154). -/
theorem eventRx_pend {b : Byte} {s t : State} (h : eventRx b s = .next t) : t.pend = s.pend := by
  obtain ⟨-, -, rfl⟩ | ⟨-, -, rfl⟩ | ⟨-, rfl⟩ := eventRx_next h <;> simp

/-- No event takes a pending command back to an earlier stage: it keeps `pend` or goes further. -/
theorem performEvent_busy_progress {e : Event} {s t : State} (hs : s.pend ≠ .none) (h : performEvent e s = .next t) :
    t.pend = s.pend ∨ t.pend.stagesLeft < s.pend.stagesLeft := by
  have ended : t.pend = .none → t.pend.stagesLeft < s.pend.stagesLeft := stagesLeft_lt_of_ended hs
  cases e with
  | host a => exact (hostAccess_busy_pend hs h).imp_right ended
  | rx b => exact .inl (eventRx_pend h)
  | lineFault => exact (eventLineFault_busy_pend h).imp_right ended
  | rst =>
    obtain rfl := eventRst_next h
    exact .inr (ended (by simp))
  | openOk | openFail => exact .inr (forcedEvent_progress (p := .opening) (by simp [Pend.forcedEvents]) h)
  | settleDone => exact .inr (forcedEvent_progress (p := .settling) (by simp [Pend.forcedEvents]) h)
  | tx | wrTimeout => exact .inr (forcedEvent_progress (p := .sending 0) (by simp [Pend.forcedEvents]) h)
  | rdDone | rdTimeout => exact .inr (forcedEvent_progress (p := .reading 1) (by simp [Pend.forcedEvents]) h)

/-- As `performEvent_busy_progress`, for an event that may not be able to happen (log 2). -/
theorem State.occur_busy_progress (e : Event) {s : State} (hs : s.pend ≠ .none) :
    (s.occur e).pend = s.pend ∨ (s.occur e).pend.stagesLeft < s.pend.stagesLeft := by
  rcases State.occur_cases e s with hnext | ⟨hidle, -⟩
  · exact performEvent_busy_progress hs hnext
  · exact .inl (by rw [hidle])

/-! ### Fair runs -/

/-- Along a run a pending command keeps its stage up to any later time, or has gone further at some time. -/
theorem scheduled_pend_kept_or_progress (schedule : Nat → Event) (s : State) {n m : Nat} (hnm : n ≤ m)
    (hpend : (scheduled schedule s n).pend ≠ .none) :
    (scheduled schedule s m).pend = (scheduled schedule s n).pend ∨
      ∃ k, n ≤ k ∧ (scheduled schedule s k).pend.stagesLeft < (scheduled schedule s n).pend.stagesLeft := by
  induction m, hnm using Nat.le_induction with
  | base => exact .inl rfl
  | succ m hnm ih =>
    rcases ih with kept | further
    · rw [← kept] at hpend ⊢
      exact (State.occur_busy_progress (schedule m) hpend).imp_right fun hlt => ⟨m + 1, by omega, hlt⟩
    · exact .inr further

/-- In a fair run a pending command goes further at some time: were its stage kept, one of its forced events would
happen. -/
theorem FairSchedule.progress {schedule : Nat → Event} {s : State} (fair : FairSchedule schedule s) {n : Nat}
    (hpend : (scheduled schedule s n).pend ≠ .none) :
    ∃ k, n ≤ k ∧ (scheduled schedule s k).pend.stagesLeft < (scheduled schedule s n).pend.stagesLeft := by
  obtain ⟨m, hnm, hfair⟩ := fair n hpend
  rcases scheduled_pend_kept_or_progress schedule s hnm hpend with kept | further
  · rcases hfair with hstage | ⟨hforced, t, ht⟩
    · exact absurd (congrArg Pend.forcedEvents kept) hstage
    · refine ⟨m + 1, by omega, ?_⟩
      rw [scheduled, State.occur_of_next ht, ← kept]
      exact forcedEvent_progress hforced ht
  · exact further

/-- Settles O54, by induction on the stages the pending command has left. -/
theorem fairRunsEndEveryPendingCommand : Obligations.FairRunsEndEveryPendingCommand := by
  intro schedule s fair n
  induction hleft : (scheduled schedule s n).pend.stagesLeft using Nat.strong_induction_on generalizing n with
  | _ left ih =>
    by_cases hidle : (scheduled schedule s n).pend = .none
    · exact ⟨n, le_rfl, hidle⟩
    · obtain ⟨k, hnk, hlt⟩ := fair.progress hidle
      obtain ⟨m, hkm, hend⟩ := ih _ (hleft ▸ hlt) k rfl
      exact ⟨m, hnk.trans hkm, hend⟩

end Sys2Proof.Machine

/-! # The family 10_state.md: what each event writes, and the invariant of the machine -/

namespace Sys2Proof

/-! ### The words of the commands (30_encoding.md R93) -/

/-- A command word as its two fields shifted into place (30_encoding.md R91). -/
theorem commandWord_eq_or (op arg : Byte) :
    commandWord op arg = op.setWidth 32 <<< 8 ||| arg.setWidth 32 := by
  rw [commandWord, ← BitVec.setWidth_eq (0#16 ++ op ++ arg)]
  simp only [BitVec.setWidth_append_eq_shiftLeft_setWidth_or]
  simp

theorem encode_crcUpdate (b : Byte) : encode (.crcUpdate b) = 0x00000200#32 ||| b.setWidth 32 :=
  commandWord_eq_or 0x02#8 b

theorem encode_respRead (n : Nat) : encode (.respRead n) = 0x00001300#32 ||| (argOfMaxLen n).setWidth 32 :=
  commandWord_eq_or 0x13#8 (argOfMaxLen n)

theorem argOfMaxLen_maxLenOfArg (arg : Byte) : argOfMaxLen (maxLenOfArg arg) = arg := by
  simp [argOfMaxLen, maxLenOfArg]

/-- A word the decoder reads a command from is the word of that command (30_encoding.md R93, R101). -/
theorem encode_of_decode {w : Word} {i : Instr} (h : decode w = .command i) : w = encode i := by
  obtain ⟨hrsv, hop⟩ := decode_command h
  rw [← commandWord_fields w hrsv]
  rcases decodeOp_command hop with ⟨ho, ha, rfl⟩ | ⟨ho, rfl⟩ | ⟨ho, ha, rfl⟩ | ⟨ho, ha, rfl⟩ | ⟨ho, ha, rfl⟩ |
    ⟨ho, rfl⟩ | ⟨ho, ha, rfl⟩ <;> simp [encode, argOfMaxLen_maxLenOfArg, *]

theorem decode_closeWord : decode closeWord = .command .portClose := by decide

end Sys2Proof

namespace Sys2Proof.Machine

/-! ### What the composite operations leave unchanged, and what they write -/

@[simp] theorem State.regRead_frame (s : State) (off : Nat) :
    (s.regRead off).acc = s.acc ∧ (s.regRead off).sess = s.sess ∧ (s.regRead off).pend = s.pend ∧
    (s.regRead off).cc = s.cc ∧ (s.regRead off).cause = s.cause ∧ (s.regRead off).rejBusy = s.rejBusy ∧
    (s.regRead off).aborted = s.aborted ∧ (s.regRead off).reading = s.reading ∧
    (s.regRead off).rvalid = s.rvalid ∧ (s.regRead off).vcode = s.vcode ∧ (s.regRead off).vrx = s.vrx ∧
    (s.regRead off).vcalc = s.vcalc ∧ (s.regRead off).vobs = s.vobs ∧ (s.regRead off).rxbuf = s.rxbuf ∧
    (s.regRead off).rxlen = s.rxlen ∧ (s.regRead off).fifo = s.fifo ∧ (s.regRead off).ovf = s.ovf ∧
    (s.regRead off).lineErr = s.lineErr ∧ (s.regRead off).txlog = s.txlog ∧
    (s.regRead off).params = s.params := by
  rcases State.regRead_cases off s with ⟨v, -, hread⟩ | ⟨-, hread⟩ <;> simp [hread]

@[simp] theorem State.discardPending_frame (s : State) :
    s.discardPending.acc = s.acc ∧ s.discardPending.cc = s.cc ∧ s.discardPending.cause = s.cause ∧
    s.discardPending.rejBusy = s.rejBusy ∧ s.discardPending.reading = s.reading ∧
    s.discardPending.rvalid = s.rvalid ∧ s.discardPending.vcode = s.vcode ∧ s.discardPending.vrx = s.vrx ∧
    s.discardPending.vcalc = s.vcalc ∧ s.discardPending.vobs = s.vobs ∧ s.discardPending.rxbuf = s.rxbuf ∧
    s.discardPending.txlog = s.txlog ∧ s.discardPending.params = s.params := by
  rcases s.discardPending_cases with ⟨-, hdiscard⟩ | ⟨m, -, hdiscard⟩ | ⟨-, -, hdiscard⟩ <;> simp [hdiscard]

@[simp] theorem State.sendRequest_frame (s : State) :
    s.sendRequest.acc = s.acc ∧ s.sendRequest.rejBusy = s.rejBusy ∧ s.sendRequest.aborted = s.aborted ∧
    s.sendRequest.reading = s.reading ∧ s.sendRequest.rvalid = s.rvalid ∧ s.sendRequest.vcode = s.vcode ∧
    s.sendRequest.vrx = s.vrx ∧ s.sendRequest.vcalc = s.vcalc ∧ s.sendRequest.vobs = s.vobs ∧
    s.sendRequest.rxbuf = s.rxbuf ∧ s.sendRequest.rxlen = s.rxlen ∧ s.sendRequest.txlog = s.txlog ∧
    s.sendRequest.params = s.params := by
  rcases s.sendRequest_cases with ⟨-, hsend⟩ | ⟨-, -, hsend⟩ | ⟨-, -, hsend⟩ <;> simp [hsend]

@[simp] theorem State.readResponse_frame (s : State) (n : Nat) :
    (s.readResponse n).acc = s.acc ∧ (s.readResponse n).rejBusy = s.rejBusy ∧
    (s.readResponse n).aborted = s.aborted ∧ (s.readResponse n).reading = s.reading ∧
    (s.readResponse n).rvalid = s.rvalid ∧ (s.readResponse n).vcode = s.vcode ∧ (s.readResponse n).vrx = s.vrx ∧
    (s.readResponse n).vcalc = s.vcalc ∧ (s.readResponse n).vobs = s.vobs ∧
    (s.readResponse n).rxbuf = s.rxbuf ∧ (s.readResponse n).txlog = s.txlog ∧
    (s.readResponse n).params = s.params := by
  rcases s.readResponse_cases n with ⟨-, hread⟩ | ⟨-, -, hread⟩ | ⟨-, -, hread⟩ <;> simp [hread]

/-- A validation writes its results and the reading alone (42_validator.md R180). -/
@[simp] theorem State.validate_frame (s : State) :
    s.validate.acc = s.acc ∧ s.validate.sess = s.sess ∧ s.validate.pend = s.pend ∧ s.validate.cc = s.cc ∧
    s.validate.cause = s.cause ∧ s.validate.rejBusy = s.rejBusy ∧ s.validate.aborted = s.aborted ∧
    s.validate.rxbuf = s.rxbuf ∧ s.validate.rxlen = s.rxlen ∧ s.validate.fifo = s.fifo ∧
    s.validate.ovf = s.ovf ∧ s.validate.lineErr = s.lineErr ∧ s.validate.txlog = s.txlog ∧
    s.validate.params = s.params := by
  rcases s.validate_cases with ⟨-, hval⟩ | ⟨-, -, hval⟩ | ⟨-, -, -, hval⟩ | ⟨-, -, -, -, hval⟩ |
    ⟨-, -, -, -, hval⟩ <;> simp [hval]

/-- `CLOSE` marks `aborted` exactly if it finds a command pending (41_framer.md R147). -/
theorem State.discardPending_aborted {s : State} (hs : s.aborted = false) :
    s.discardPending.aborted = true ↔ s.pend ≠ .none := by
  rcases s.discardPending_cases with ⟨hp, hdiscard⟩ | ⟨m, hp, hdiscard⟩ | ⟨hp, -, hdiscard⟩ <;> simp [hdiscard, hp, hs]

/-- `CLOSE` writes the length only by discarding a read (41_framer.md R147). -/
theorem State.discardPending_rxlen (s : State) :
    s.discardPending.rxlen = s.rxlen ∨ (∃ m, s.pend = .reading m) ∧ s.discardPending.rxlen = 0 := by
  rcases s.discardPending_cases with ⟨-, hdiscard⟩ | ⟨m, hp, hdiscard⟩ | ⟨-, -, hdiscard⟩
  · exact .inl (by rw [hdiscard])
  · exact .inr ⟨⟨m, hp⟩, by simp [hdiscard]⟩
  · exact .inl (by simp [hdiscard])

/-- An accepted `resp.read` changes the length only by a connection fault (41_framer.md R151). -/
theorem State.readResponse_rxlen_ne {s : State} {n : Nat} (h : (s.readResponse n).rxlen ≠ s.rxlen) :
    (s.readResponse n).pend = .none ∧ (s.readResponse n).cc = .connFault ∧ (s.readResponse n).rxlen = 0 := by
  rcases s.readResponse_cases n with ⟨-, hread⟩ | ⟨-, -, hread⟩ | ⟨-, -, hread⟩
  · simp [hread]
  · simp [hread]
  · simp [hread] at h

/-- A validation writes the reading only where all four rules pass (42_validator.md R186). -/
theorem State.validate_reading_ne {s : State} (h : s.validate.reading ≠ s.reading ∨ s.validate.rvalid ≠ s.rvalid) :
    Config.pktLen ≤ s.rxlen ∧ crc8 s.checkedBytes = s.packetByte 12 ∧ s.packetByte 2 = Config.pktMarker ∧
      s.packetByte 3 = Config.pktCount ∧ s.validate.vcode = .ok ∧ s.validate.rvalid = true := by
  rcases s.validate_cases with ⟨-, hval⟩ | ⟨-, -, hval⟩ | ⟨-, -, -, hval⟩ | ⟨-, -, -, -, hval⟩ |
    ⟨hlen, hcrc, hmarker, hcount, hval⟩
  case inr.inr.inr.inr => simp [hlen, hcrc, hmarker, hcount, hval]
  all_goals simp [hval] at h

/-! ### What an event can do

One relation lists every way an event can happen, with the condition it needs and the state it leaves. A statement about
every event is then a case analysis over it. -/

/-- The event happens in the first state and leaves the second (00_scope.md R8). -/
inductive Transition : Event → State → State → Prop where
  /-- A register read (20_memory.md R61). -/
  | read {s : State} (off : Nat) (aligned : off % 4 = 0) (inRange : off < 0x200) :
      Transition (.host (.read .word off)) s (s.regRead off)
  /-- A write that is ignored (20_memory.md R62). -/
  | ignoredWrite {s : State} (off : Nat) (v : Word) (notCmd : off ≠ 0x000) :
      Transition (.host (.write .word off v)) s s
  /-- A word written to `CMD` of a busy block (30_encoding.md R97). -/
  | dropped {s : State} (w : Word) (notClose : w ≠ closeWord) (busy : s.pend ≠ .none) :
      Transition (.host (.write .word 0x000 w)) s s.dropCommand
  /-- An illegal word written to `CMD` of an idle block (30_encoding.md R95, R96). -/
  | illegal {s : State} (w : Word) (r : IllegalWord) (undecoded : decode w = .illegal r) (idle : s.pend = .none) :
      Transition (.host (.write .word 0x000 w)) s s.accept.illegalCommand
  | crcInit {s : State} (idle : s.pend = .none) :
      Transition (.host (.write .word 0x000 (encode .crcInit))) s (s.accept.setAcc Config.crcInitValue)
  | crcUpdate {s : State} (b : Byte) (idle : s.pend = .none) :
      Transition (.host (.write .word 0x000 (encode (.crcUpdate b)))) s (s.accept.setAcc (crc8Step s.acc b))
  | portOpen {s : State} (idle : s.pend = .none) :
      Transition (.host (.write .word 0x000 (encode .portOpen))) s (s.accept.teardown.setPend .opening)
  | portClose {s : State} :
      Transition (.host (.write .word 0x000 (encode .portClose))) s s.accept.discardPending.teardown
  | reqSend {s : State} (idle : s.pend = .none) :
      Transition (.host (.write .word 0x000 (encode .reqSend))) s s.accept.sendRequest
  | respRead {s : State} (n : Nat) (inRange : 1 ≤ n ∧ n ≤ Config.rxbufSize) (idle : s.pend = .none) :
      Transition (.host (.write .word 0x000 (encode (.respRead n)))) s (s.accept.readResponse n)
  | pktValidate {s : State} (idle : s.pend = .none) :
      Transition (.host (.write .word 0x000 (encode .pktValidate))) s s.accept.validate
  | openOk {s : State} (pending : s.pend = .opening) : Transition .openOk s (s.openSession.setPend .settling)
  | openFail {s : State} (pending : s.pend = .opening) : Transition .openFail s (s.connFault .openFailed)
  | settleDone {s : State} (pending : s.pend = .settling) : Transition .settleDone s (s.complete .ok .none)
  /-- `EV_TX` with bytes left to send (41_framer.md R149). -/
  | txMore {s : State} (k : Fin 4) (pending : s.pend = .sending k) (more : k ≠ 3) :
      Transition .tx s ((s.emitTx (Config.reqFrame k)).setPend (.sending (k + 1)))
  /-- `EV_TX` of the frame's last byte (41_framer.md R149). -/
  | txLast {s : State} (k : Fin 4) (pending : s.pend = .sending k) (last : k = 3) :
      Transition .tx s ((s.emitTx (Config.reqFrame k)).complete .ok .none)
  | wrTimeout {s : State} (k : Fin 4) (pending : s.pend = .sending k) :
      Transition .wrTimeout s (s.lineCommandFault .writeFailed)
  | rdDone {s : State} (m : Nat) (pending : s.pend = .reading m) (queued : 1 ≤ s.fifo.length) :
      Transition .rdDone s ((s.deliver m).complete .ok .none)
  | rdTimeout {s : State} (m : Nat) (pending : s.pend = .reading m) (empty : s.fifo.length = 0) :
      Transition .rdTimeout s ((s.setRxlen 0).complete .ok .none)
  /-- A received byte for which there is room (41_framer.md R154). -/
  | rxQueued {s : State} (b : Byte) (isOpen : s.sess = .opened) (room : s.fifo.length < s.params.rxFifoDepth) :
      Transition (.rx b) s (s.queueByte b)
  /-- A received byte that is lost (41_framer.md R154). -/
  | rxLost {s : State} (b : Byte) (isOpen : s.sess = .opened) (full : s.params.rxFifoDepth ≤ s.fifo.length) :
      Transition (.rx b) s s.markOverflow
  /-- A byte on a closed session (41_framer.md R154). -/
  | rxClosed {s : State} (b : Byte) (closed : s.sess = .closed) : Transition (.rx b) s s
  | lineFaultSending {s : State} (k : Fin 4) (isOpen : s.sess = .opened) (pending : s.pend = .sending k) :
      Transition .lineFault s (s.lineCommandFault .writeFailed)
  | lineFaultReading {s : State} (m : Nat) (isOpen : s.sess = .opened) (pending : s.pend = .reading m) :
      Transition .lineFault s ((s.setRxlen 0).lineCommandFault .readFailed)
  /-- A line fault that is only recorded (41_framer.md R155). -/
  | lineFaultLatent {s : State} (isOpen : s.sess = .opened) (pending : s.pend = .none ∨ s.pend = .settling) :
      Transition .lineFault s s.markLineErr
  | rst {s : State} : Transition .rst s s.resetBlock

/-- A command does one of the things listed for its word. -/
theorem exec_transition {w : Word} {i : Instr} {s t : State} (hdec : decode w = .command i) (h : exec i s = .next t) :
    Transition (.host (.write .word 0x000 w)) s t := by
  have wf := decode_command_wellFormed hdec
  rcases exec_cases i h with ⟨busy, hi, rfl⟩ | ⟨rfl, rfl⟩ | ⟨idle, hi⟩
  · refine .dropped w (fun hclose => hi ?_) busy
    rw [hclose, decode_closeWord] at hdec
    exact (Decoded.command.inj hdec).symm
  · obtain rfl := encode_of_decode hdec
    exact .portClose
  · obtain rfl := encode_of_decode hdec
    rcases hi with ⟨rfl, rfl⟩ | ⟨b, rfl, rfl⟩ | ⟨rfl, rfl⟩ | ⟨rfl, rfl⟩ | ⟨n, rfl, rfl⟩ | ⟨rfl, rfl⟩
    · exact .crcInit idle
    · exact .crcUpdate b idle
    · exact .portOpen idle
    · exact .reqSend idle
    · exact .respRead n (by simpa [Instr.wellFormed, Config.rxbufSize] using wf) idle
    · exact .pktValidate idle

theorem hostAccess_transition {a : HostAccess} {s t : State} (h : hostAccess a s = .next t) :
    Transition (.host a) s t := by
  rcases hostAccess_next h with ⟨off, rfl, aligned, inRange, rfl⟩ | ⟨off, v, rfl, notCmd, rfl⟩ | ⟨w, rfl, hw⟩
  · exact .read off aligned inRange
  · exact .ignoredWrite off v notCmd
  · rcases writeCommand_next hw with ⟨i, hdec, hexec⟩ | ⟨r, hdec, ⟨busy, rfl⟩ | ⟨idle, rfl⟩⟩
    · exact exec_transition hdec hexec
    · refine .dropped w (fun hclose => ?_) busy
      rw [hclose, decode_closeWord] at hdec
      cases hdec
    · exact .illegal w r hdec idle

/-- Whatever happens is in the list. -/
theorem performEvent_transition {e : Event} {s t : State} (h : performEvent e s = .next t) : Transition e s t := by
  cases e with
  | host a => exact hostAccess_transition h
  | openOk =>
    obtain ⟨pending, rfl⟩ := eventOpenOk_next h
    exact .openOk pending
  | openFail =>
    obtain ⟨pending, rfl⟩ := eventOpenFail_next h
    exact .openFail pending
  | rx b =>
    obtain ⟨isOpen, room, rfl⟩ | ⟨isOpen, full, rfl⟩ | ⟨closed, rfl⟩ := eventRx_next h
    · exact .rxQueued b isOpen room
    · exact .rxLost b isOpen full
    · exact .rxClosed b closed
  | lineFault =>
    obtain ⟨isOpen, ⟨k, pending, rfl⟩ | ⟨m, pending, rfl⟩ | ⟨pending, rfl⟩⟩ := eventLineFault_next h
    · exact .lineFaultSending k isOpen pending
    · exact .lineFaultReading m isOpen pending
    · exact .lineFaultLatent isOpen pending
  | settleDone =>
    obtain ⟨pending, rfl⟩ := eventSettleDone_next h
    exact .settleDone pending
  | tx =>
    obtain ⟨k, pending, ⟨last, rfl⟩ | ⟨more, rfl⟩⟩ := eventTx_next h
    · exact .txLast k pending last
    · exact .txMore k pending more
  | wrTimeout =>
    obtain ⟨k, pending, rfl⟩ := eventWrTimeout_next h
    exact .wrTimeout k pending
  | rdDone =>
    obtain ⟨m, pending, queued, rfl⟩ := eventRdDone_next h
    exact .rdDone m pending queued
  | rdTimeout =>
    obtain ⟨m, pending, empty, rfl⟩ := eventRdTimeout_next h
    exact .rdTimeout m pending empty
  | rst =>
    obtain rfl := eventRst_next h
    exact .rst

/-! ### What every event writes -/

/-- Settles O17: every other way an event happens keeps the accumulator. -/
theorem accumulatorWrittenOnlyByCrcCommands : Obligations.AccumulatorWrittenOnlyByCrcCommands := by
  intro e s t h hacc
  cases performEvent_transition h with
  | rst => exact .inl ⟨rfl, rfl⟩
  | crcInit idle => exact .inr (.inl ⟨idle, rfl, rfl⟩)
  | crcUpdate b idle => exact .inr (.inr ⟨idle, b, by rw [encode_crcUpdate], rfl⟩)
  | _ => simp at hacc

/-- Settles O31: `EV_TX` is the only event that emits. -/
theorem transmitLogGrowsByFrameBytesOnly : Obligations.TransmitLogGrowsByFrameBytesOnly := by
  intro e s t h
  cases performEvent_transition h with
  | txMore k pending | txLast k pending =>
    exact ⟨fun hne => absurd rfl hne, fun _ => ⟨k, pending, rfl⟩⟩
  | _ => exact ⟨fun _ => by simp, nofun⟩

/-- Settles O11: a write to `CMD` is dropped by a busy block, or accepted; `CLOSE` is the one word that a busy block
accepts. -/
theorem rejBusyAndAbortedFollowAcceptance : Obligations.RejBusyAndAbortedFollowAcceptance := by
  intro e s t h
  cases performEvent_transition h with
  | dropped w notClose busy =>
    have hw : w ≠ 0x00001100#32 := notClose
    simp [busy, hw]
  | portClose =>
    have hw : encode .portClose = 0x00001100#32 := by decide
    have haborted := State.discardPending_aborted (s := s.accept) rfl
    simp [hw, haborted]
  | illegal _ _ _ idle | crcInit idle | crcUpdate _ idle | portOpen idle | reqSend idle | respRead _ _ idle
  | pktValidate idle => simp [idle]
  | ignoredWrite off v notCmd => simp [notCmd]
  | _ => simp

/-- Settles O34: the buffer and its length are written by the events and the `CLOSE` that end a read, by a
`resp.read` that fails at once, and by reset. -/
theorem responseChangesOnlyWhenAReadEnds : Obligations.ResponseChangesOnlyWhenAReadEnds := by
  intro e s t h
  cases performEvent_transition h with
  | rst => exact ⟨fun _ => .inl rfl, fun _ => .inl rfl⟩
  | rdDone m pending => exact ⟨fun _ => .inr rfl, fun _ => .inr (.inl ⟨m, pending, rfl⟩)⟩
  | rdTimeout m pending | lineFaultReading m _ pending => exact ⟨by simp, fun _ => .inr (.inl ⟨m, pending, rfl⟩)⟩
  | portClose =>
    rcases s.accept.discardPending_rxlen with hkept | ⟨⟨m, pending⟩, -⟩
    · simp [hkept]
    · exact ⟨by simp, fun _ => .inr (.inl ⟨m, pending, by simp⟩)⟩
  | respRead n _ idle =>
    refine ⟨by simp, fun hchange => .inr (.inr ?_)⟩
    obtain ⟨hpend, hcc, hrxlen⟩ := State.readResponse_rxlen_ne (s := s.accept) (n := n) (by simpa using hchange)
    exact ⟨idle, hpend, hcc, hrxlen, argOfMaxLen n, by rw [encode_respRead]⟩
  | _ => simp

/-- Settles O40: validation and reset alone write these registers. -/
theorem readingComesOnlyFromACheckedPacket : Obligations.ReadingComesOnlyFromACheckedPacket := by
  intro e s t h
  cases performEvent_transition h with
  | rst => exact ⟨fun _ => .inl rfl, fun _ => .inl rfl⟩
  | pktValidate idle =>
    exact ⟨fun _ => .inr ⟨rfl, idle⟩, fun hchange => .inr (State.validate_reading_ne (s := s.accept) hchange)⟩
  | _ => simp

/-! ### The invariant in normal form

Each part of the invariant as what a state with it looks like, so that a step is checked by reading off the fields it
leaves. -/

/-- 41_framer.md R142: the session is open and no attempt to open it is pending, or it is closed, the line's fields are
clean, and nothing but such an attempt is pending. -/
theorem sessionInvariant_iff (s : State) :
    SessionInvariant s ↔ (s.sess = .opened ∧ s.pend ≠ .opening) ∨
      (s.sess = .closed ∧ s.fifo = [] ∧ s.ovf = false ∧ s.lineErr = false ∧
        (s.pend = .none ∨ s.pend = .opening)) := by
  constructor
  · rintro ⟨closedClean, settlingOpen, sendingOpen, readingOpen, openingClosed⟩
    cases hs : s.sess with
    | opened => exact .inl ⟨rfl, fun hp => by simpa [hs] using openingClosed hp⟩
    | closed =>
      obtain ⟨hfifo, hovf, hline⟩ := closedClean hs
      refine .inr ⟨rfl, hfifo, hovf, hline, ?_⟩
      cases hp : s.pend <;> simp_all
  · rintro (⟨hs, hp⟩ | ⟨hs, hfifo, hovf, hline, hp⟩)
    · constructor <;> simp_all
    · constructor <;> rcases hp with hp | hp <;> simp_all

/-- What the outcome registers can hold together (10_state.md R25, R27; 60_exceptions.md R202, R203). -/
def State.OutcomeRule (s : State) : Prop :=
  (s.cc = .ok ∧ s.cause = .none ∧ (s.aborted = true → s.pend = .none ∧ s.sess = .closed)) ∨
  (s.cc = .connFault ∧ s.cause ≠ .none ∧ s.aborted = false ∧ s.pend = .none ∧ s.sess = .closed) ∨
  (s.cc = .illegalCmd ∧ s.cause = .none ∧ s.aborted = false ∧ s.pend = .none)

/-- Where a recorded break of the line can stand (10_state.md R32). -/
def State.LatentRule (s : State) : Prop := s.lineErr = true → s.pend = .none ∨ s.pend = .settling

/-- What the reading can be (10_state.md R28; 42_validator.md R186). -/
def State.ReadingRule (s : State) : Prop :=
  (∃ raw, raw < 65536 ∧ s.reading = scaledReading raw) ∧ (s.rvalid = false → s.reading = 0#32) ∧
    (s.rvalid = true → s.vcode ≠ .none)

theorem reportInvariant_iff (s : State) :
    ReportInvariant s ↔ s.OutcomeRule ∧ s.LatentRule ∧ s.ReadingRule := by
  constructor
  · rintro ⟨pendingUnreported, causeOfFault, faultClosed, abortedClosed, latentFault, readingScaled, noReadingYet,
      validatedOnce⟩
    refine ⟨?_, latentFault, readingScaled, noReadingYet, validatedOnce⟩
    cases hcc : s.cc with
    | ok =>
      refine .inl ⟨hcc, by simpa [hcc] using causeOfFault, fun ha => ⟨?_, (abortedClosed ha).1⟩⟩
      by_contra hp
      simpa [ha] using (pendingUnreported hp).2.2
    | connFault =>
      refine .inr (.inl ⟨hcc, causeOfFault.mpr hcc, ?_, ?_, faultClosed hcc⟩)
      · simpa [hcc] using abortedClosed
      · simpa [hcc] using pendingUnreported
    | illegalCmd =>
      refine .inr (.inr ⟨hcc, by simpa [hcc] using causeOfFault, ?_, ?_⟩)
      · simpa [hcc] using abortedClosed
      · simpa [hcc] using pendingUnreported
  · rintro ⟨outcome, latent, scaled, unread, validated⟩
    rcases outcome with ⟨hcc, hcause, ha⟩ | ⟨hcc, hcause, ha, hp, hs⟩ | ⟨hcc, hcause, ha, hp⟩
    · refine ⟨fun hp => ⟨hcc, hcause, ?_⟩, by simp [hcc, hcause], by simp [hcc], fun h => ⟨(ha h).2, hcc⟩, latent,
        scaled, unread, validated⟩
      by_contra haborted
      exact hp (ha (by simpa using haborted)).1
    · exact ⟨by simp [hp], by simp [hcc, hcause], fun _ => hs, by simp [ha], latent, scaled, unread, validated⟩
    · exact ⟨by simp [hp], by simp [hcc, hcause], by simp [hcc], by simp [ha], latent, scaled, unread, validated⟩

/-! ### Every event keeps the session rules -/

theorem Transition.sessionInvariant {e : Event} {s t : State} (h : Transition e s t) (hs : SessionInvariant s) :
    SessionInvariant t := by
  rw [sessionInvariant_iff] at hs ⊢
  cases h with
  | read | ignoredWrite | dropped | illegal | crcInit | crcUpdate | pktValidate | rxClosed => simpa using hs
  | portOpen | portClose | wrTimeout | lineFaultSending | lineFaultReading | openOk | rst => simp
  | reqSend idle =>
    rcases s.accept.sendRequest_cases with ⟨hc, hsend⟩ | ⟨-, -, hsend⟩ | ⟨ho, -, hsend⟩
    · simp_all
    · simp [hsend]
    · simp_all
  | respRead n _ idle =>
    rcases s.accept.readResponse_cases n with ⟨hc, hread⟩ | ⟨-, -, hread⟩ | ⟨ho, -, hread⟩
    · simp_all
    · simp [hread]
    · simp_all
  | openFail pending | settleDone pending | txMore _ pending | txLast _ pending | rdDone _ pending
  | rdTimeout _ pending => simp_all
  | rxQueued _ isOpen | rxLost _ isOpen | lineFaultLatent isOpen => simp_all

/-! ### Every event keeps the storage rules -/

/-- A step keeps the storage rules if it writes neither the parameters nor the buffer, sets `rxlen` to 0 if it sets it,
queues nothing and starts no read. -/
theorem StorageInvariant.of_frame {s t : State} (hs : StorageInvariant s) (hparams : t.params = s.params)
    (hrxbuf : t.rxbuf = s.rxbuf) (hrxlen : t.rxlen = s.rxlen ∨ t.rxlen = 0) (hfifo : t.fifo = s.fifo ∨ t.fifo = [])
    (hpend : ∀ m, t.pend = .reading m → s.pend = .reading m) : StorageInvariant t where
  paramsValid := hparams ▸ hs.paramsValid
  bufferCanonical := hrxbuf ▸ hs.bufferCanonical
  lengthInRange := by
    have := hs.lengthInRange
    omega
  deliveredWritten i hi := by
    rw [hrxbuf]
    exact hs.deliveredWritten i (by omega)
  fifoFits := by
    rw [hparams]
    rcases hfifo with hfifo | hfifo
    · exact hfifo ▸ hs.fifoFits
    · simp [hfifo]
  readingInRange m hm := hs.readingInRange m (hpend m hm)

/-- A read that starts keeps the storage rules if its length is in range (30_encoding.md R92). -/
theorem StorageInvariant.setPend_reading {s : State} (hs : StorageInvariant s) {n : Nat}
    (hn : 1 ≤ n ∧ n ≤ Config.rxbufSize) : StorageInvariant (s.setPend (.reading n)) where
  paramsValid := hs.paramsValid
  bufferCanonical := hs.bufferCanonical
  lengthInRange := hs.lengthInRange
  deliveredWritten := hs.deliveredWritten
  fifoFits := hs.fifoFits
  readingInRange m hm := by
    obtain rfl : n = m := by simpa using hm
    exact hn

/-- A byte is queued where there is room (41_framer.md R154). -/
theorem StorageInvariant.queueByte {s : State} (hs : StorageInvariant s) (b : Byte)
    (room : s.fifo.length < s.params.rxFifoDepth) : StorageInvariant (s.queueByte b) where
  paramsValid := hs.paramsValid
  bufferCanonical := hs.bufferCanonical
  lengthInRange := hs.lengthInRange
  deliveredWritten := hs.deliveredWritten
  fifoFits := by simpa using room
  readingInRange := hs.readingInRange

/-- A delivery writes every byte it counts, inside the buffer (41_framer.md R152). -/
theorem StorageInvariant.deliver {s : State} (hs : StorageInvariant s) {m : Nat} (hm : m ≤ Config.rxbufSize) :
    StorageInvariant (s.deliver m) where
  paramsValid := hs.paramsValid
  bufferCanonical := State.deliver_wf m s hm hs.bufferCanonical
  lengthInRange := (Nat.min_le_right _ _).trans hm
  deliveredWritten i hi := by
    have hi' : i < min s.fifo.length m := hi
    rw [State.deliver_read, if_pos hi']
    exact ⟨_, List.getElem?_eq_getElem (by omega)⟩
  fifoFits := by
    have := hs.fifoFits
    simp only [State.deliver_fifo, State.deliver_params, List.length_drop]
    omega
  readingInRange := hs.readingInRange

/-- The buffer after a reset is empty, and the parameters stand (70_reset_and_hazards.md R230). -/
theorem storageInvariant_resetBlock {s : State} (hvalid : s.params.valid = true) :
    StorageInvariant s.resetBlock where
  paramsValid := hvalid
  bufferCanonical := rfl
  lengthInRange := Nat.zero_le _
  deliveredWritten i hi := absurd hi (Nat.not_lt_zero i)
  fifoFits := Nat.zero_le _
  readingInRange m hm := by simp at hm

theorem Transition.storageInvariant {e : Event} {s t : State} (h : Transition e s t) (hs : StorageInvariant s) :
    StorageInvariant t := by
  have haccept : StorageInvariant s.accept := hs.of_frame rfl rfl (.inl rfl) (.inl rfl) fun _ => id
  cases h with
  | ignoredWrite | rxClosed => exact hs
  | read | dropped | illegal | crcInit | crcUpdate | pktValidate | portOpen | openOk | openFail | settleDone | txMore
  | txLast | wrTimeout | rdTimeout | rxLost | lineFaultSending | lineFaultReading | lineFaultLatent =>
    exact hs.of_frame (by simp) (by simp) (by simp) (by simp) (by simp)
  | portClose =>
    have hrxlen := s.accept.discardPending_rxlen.imp_right And.right
    exact hs.of_frame (by simp) (by simp) (by simpa using hrxlen) (by simp) (by simp)
  | reqSend idle =>
    rcases s.accept.sendRequest_cases with ⟨-, hsend⟩ | ⟨-, -, hsend⟩ | ⟨-, -, hsend⟩ <;>
      exact hs.of_frame (by simp) (by simp) (by simp) (by simp [hsend]) (by simp [hsend])
  | respRead n inRange idle =>
    rcases s.accept.readResponse_cases n with ⟨-, hread⟩ | ⟨-, -, hread⟩ | ⟨-, -, hread⟩
    · exact hs.of_frame (by simp) (by simp) (by simp [hread]) (by simp [hread]) (by simp [hread])
    · exact hs.of_frame (by simp) (by simp) (by simp [hread]) (by simp [hread]) (by simp [hread])
    · exact hread ▸ haccept.setPend_reading inRange
  | rdDone m pending =>
    exact (hs.deliver (hs.readingInRange m pending).2).of_frame rfl rfl (.inl rfl) (.inl rfl) (by simp)
  | rxQueued b _ room => exact hs.queueByte b room
  | rst => exact storageInvariant_resetBlock hs.paramsValid

/-! ### Every event keeps the reporting rules -/

theorem bigEndian16_lt (hi lo : Byte) : bigEndian16 hi lo < 65536 := by
  have := hi.isLt
  have := lo.isLt
  simp only [bigEndian16]
  omega

/-- The reading rule asks about the reading and the validation's outcome alone. -/
theorem State.ReadingRule.of_frame {s t : State} (hs : s.ReadingRule) (hreading : t.reading = s.reading)
    (hrvalid : t.rvalid = s.rvalid) (hvcode : t.vcode = s.vcode) : t.ReadingRule := by
  simpa only [State.ReadingRule, hreading, hrvalid, hvcode] using hs

/-- A validation writes an outcome, and a reading only as a scaled 16-bit value (42_validator.md R186). -/
theorem State.ReadingRule.validate {s : State} (hs : s.ReadingRule) : s.validate.ReadingRule := by
  obtain ⟨scaled, unread, -⟩ := hs
  rcases s.validate_cases with ⟨-, hval⟩ | ⟨-, -, hval⟩ | ⟨-, -, -, hval⟩ | ⟨-, -, -, -, hval⟩ |
    ⟨-, -, -, -, hval⟩
  case inr.inr.inr.inr =>
    rw [hval]
    exact ⟨⟨_, bigEndian16_lt _ _, rfl⟩, by simp, by simp⟩
  all_goals
    rw [hval]
    exact ⟨scaled, unread, by simp⟩

theorem readingRule_resetBlock (s : State) : s.resetBlock.ReadingRule :=
  ⟨⟨0, by decide, rfl⟩, fun _ => rfl, by simp⟩

theorem Transition.readingRule {e : Event} {s t : State} (h : Transition e s t) (hs : s.ReadingRule) :
    t.ReadingRule := by
  cases h with
  | pktValidate => exact State.ReadingRule.validate (s := s.accept) hs
  | rst => exact readingRule_resetBlock s
  | _ => exact hs.of_frame (by simp) (by simp) (by simp)

/-- A break of the line is recorded while nothing or the settle delay is pending, and the commands that wait for the
line start only without one (41_framer.md R148, R151, R155). -/
theorem Transition.latentRule {e : Event} {s t : State} (h : Transition e s t) (hs : s.LatentRule) :
    t.LatentRule := by
  simp only [State.LatentRule] at hs ⊢
  cases h with
  | read | ignoredWrite | dropped | illegal | crcInit | crcUpdate | pktValidate | rxClosed | rxQueued | rxLost =>
    simpa using hs
  | portOpen | portClose | openOk | openFail | settleDone | txLast | wrTimeout | rdDone | rdTimeout | lineFaultSending
  | lineFaultReading | rst => simp
  | lineFaultLatent _ pending => simpa using pending
  | txMore k pending => simp_all
  | reqSend idle =>
    rcases s.accept.sendRequest_cases with ⟨-, hsend⟩ | ⟨-, -, hsend⟩ | ⟨-, hline, hsend⟩ <;> simp_all
  | respRead n _ idle =>
    rcases s.accept.readResponse_cases n with ⟨-, hread⟩ | ⟨-, -, hread⟩ | ⟨-, hline, hread⟩ <;> simp_all

theorem Transition.outcomeRule {e : Event} {s t : State} (h : Transition e s t) (hs : s.OutcomeRule)
    (session : SessionInvariant s) : t.OutcomeRule := by
  simp only [State.OutcomeRule] at hs ⊢
  cases h with
  | read | ignoredWrite | dropped | rxClosed | rxQueued | rxLost | lineFaultLatent => simpa using hs
  | illegal _ _ _ idle => simp [idle]
  | crcInit | crcUpdate | pktValidate | portOpen | portClose | rst => simp
  | openOk pending | settleDone pending | txLast _ pending | txMore _ pending | rdDone _ pending
  | rdTimeout _ pending => simp_all
  | openFail pending =>
    have := session.openingClosed pending
    simp_all
  | wrTimeout _ pending | lineFaultSending _ _ pending | lineFaultReading _ _ pending => simp_all
  | reqSend idle =>
    rcases s.accept.sendRequest_cases with ⟨hc, hsend⟩ | ⟨-, -, hsend⟩ | ⟨-, -, hsend⟩ <;> simp_all
  | respRead n _ idle =>
    rcases s.accept.readResponse_cases n with ⟨hc, hread⟩ | ⟨-, -, hread⟩ | ⟨-, -, hread⟩ <;> simp_all

theorem Transition.reportInvariant {e : Event} {s t : State} (h : Transition e s t) (hs : ReportInvariant s)
    (session : SessionInvariant s) : ReportInvariant t := by
  rw [reportInvariant_iff] at hs ⊢
  obtain ⟨outcome, latent, reading⟩ := hs
  exact ⟨h.outcomeRule outcome session, h.latentRule latent, h.readingRule reading⟩

/-! ### Every step keeps the invariant, and reset has it -/

theorem performEvent_inv {e : Event} {s t : State} (h : performEvent e s = .next t) (hs : Inv s) : Inv t :=
  have happened := performEvent_transition h
  ⟨happened.sessionInvariant hs.session, happened.storageInvariant hs.storage,
    happened.reportInvariant hs.report hs.session⟩

/-- The invariant does not ask about the announced events (log 1). -/
theorem Inv.announced {s : State} (hs : Inv s) (es : List Event) : Inv (s.announced es) where
  session := { hs.session with }
  storage := { hs.storage with }
  report := { hs.report with }

/-- The invariant does not ask about the model's counter (log 21). -/
theorem Inv.drawFresh {s : State} (hs : Inv s) : Inv s.drawFresh where
  session := { hs.session with }
  storage := { hs.storage with }
  report := { hs.report with }

/-- Settles O51: a step is an event, after the announced list or the model's counter has moved. -/
theorem everyStepKeepsTheInvariant : Obligations.EveryStepKeepsTheInvariant := by
  intro s t hs h
  rcases step_cases h with ⟨e, rest, -, hnext⟩ | ⟨-, hnext⟩ | ⟨-, rfl⟩
  · exact performEvent_inv hnext (hs.announced rest)
  · exact performEvent_inv hnext hs.drawFresh
  · exact hs.drawFresh

/-- A reset of a block with valid parameters gives the invariant, whatever the state was
(70_reset_and_hazards.md R230). -/
theorem inv_resetBlock {s : State} (hvalid : s.params.valid = true) : Inv s.resetBlock where
  session := (sessionInvariant_iff _).mpr (.inr (by simp))
  storage := storageInvariant_resetBlock hvalid
  report := (reportInvariant_iff _).mpr
    ⟨.inl (by simp), by simp [State.LatentRule], readingRule_resetBlock s⟩

/-- Settles O50: the state after reset is its own reset. -/
theorem resetStateHasTheInvariant : Obligations.ResetStateHasTheInvariant :=
  inv_resetBlock (s := State.reset) (by decide)

/-! ### What the registers show -/

/-- The accesses that are not refused read their register (20_memory.md R61, R63, R64). -/
theorem performEvent_read {s : State} {off : Nat} (h4 : off % 4 = 0) (hr : off < 0x200) :
    performEvent (.host (.read .word off)) s = .next (s.regRead off) := by
  simp only [performEvent, hostAccess, (accessRefusal_eq_none _ _).mpr ⟨rfl, h4, hr⟩]

theorem State.regRead_of_some {s : State} {off : Nat} {v : Word} (h : s.regValue off = some v) :
    s.regRead off = { s with readData := v } := by
  simp only [State.regRead, h, State.returnToHost]

theorem State.regRead_of_none {s : State} {off : Nat} (h : s.regValue off = none) :
    s.regRead off = { s with readData := Config.unspecifiedWord s.fresh, fresh := s.fresh + 1 } := by
  simp only [State.regRead, h, State.returnToHost, State.drawFresh]

/-! #### `STATUS` (10_state.md R37) -/

/-- The fields of `STATUS` above its flags, the reserved ones 0. -/
theorem State.statusWord_fields (s : State) :
    s.statusWord.extractLsb' 6 2 = 0#2 ∧ s.statusWord.extractLsb' 8 3 = s.cc.code ∧
    s.statusWord.extractLsb' 11 1 = 0#1 ∧ s.statusWord.extractLsb' 12 3 = s.cause.code ∧
    s.statusWord.extractLsb' 15 17 = 0#17 := by
  rw [State.statusWord]
  refine ⟨?_, ?_, ?_, ?_, ?top⟩
  case top =>
    repeat rw [BitVec.extractLsb'_append_eq_of_le (by decide)]
    rfl
  all_goals
    repeat rw [BitVec.extractLsb'_append_eq_of_le (by decide)]
    exact BitVec.extractLsb'_append_eq_right

/-- The flags in the low bits of `STATUS`. -/
theorem State.statusWord_flags (s : State) :
    s.statusWord.getLsbD 0 = s.busy ∧ s.statusWord.getLsbD 1 = s.isOpen ∧ s.statusWord.getLsbD 2 = s.rejBusy ∧
    s.statusWord.getLsbD 3 = s.aborted ∧ s.statusWord.getLsbD 4 = s.rvalid ∧ s.statusWord.getLsbD 5 = s.ovf := by
  simp only [State.statusWord, BitVec.getLsbD_append]
  simp

/-- The outcome of a validation in `VRESULT` (10_state.md R40). -/
theorem State.vresultWord_vcode (s : State) : s.vresultWord.extractLsb' 0 3 = s.vcode.code := by
  rw [State.vresultWord]
  exact BitVec.extractLsb'_append_eq_right

theorem State.isOpen_iff (s : State) : s.isOpen = true ↔ s.sess = .opened := by
  simp [State.isOpen]

/-- The codes of 60_exceptions.md R201, each of one completion code, and no other shows (U3). -/
theorem CompletionCode.code_iff (c : CompletionCode) :
    (c.code = 0#3 ↔ c = .ok) ∧ (c.code = 1#3 ↔ c = .connFault) ∧ (c.code = 2#3 ↔ c = .illegalCmd) ∧
    c.code.toNat ≤ 2 := by
  cases c <;> decide

/-- The codes of 60_exceptions.md R202, each of one cause, and no other shows (U4). -/
theorem Cause.code_iff (c : Cause) :
    (c.code = 0#3 ↔ c = .none) ∧ (c.code = 1#3 ↔ c = .openFailed) ∧ (c.code = 2#3 ↔ c = .writeFailed) ∧
    (c.code = 3#3 ↔ c = .readFailed) ∧ (c.code = 4#3 ↔ c = .notOpen) ∧ c.code.toNat ≤ 4 := by
  cases c <;> decide

/-- The reserved codes of a validation never show (U5). -/
theorem VCode.code_le (v : VCode) : v.code.toNat ≤ 5 := by
  cases v <;> decide

/-- Settles O41, field by field: each field of `STATUS` is its register, and a code determines its value. -/
theorem statusShowsTheFlagsAndCodes : Obligations.StatusShowsTheFlagsAndCodes := by
  refine ⟨by decide, fun s => ?_⟩
  have hread : performEvent (.host (.read .word 0x004)) s = .next { s with readData := s.statusWord } :=
    (performEvent_read (by decide) (by decide)).trans (congrArg _ (State.regRead_of_some rfl))
  obtain ⟨hbusy, hopen, hrej, haborted, hrvalid, hovf⟩ := s.statusWord_flags
  obtain ⟨hres6, hcc, hres11, hcause, hres15⟩ := s.statusWord_fields
  obtain ⟨hok, hconn, hillegal, hcc_le⟩ := s.cc.code_iff
  obtain ⟨hnone, hopenFailed, hwrite, hreadFailed, hnotOpen, hcause_le⟩ := s.cause.code_iff
  rw [hbusy, hopen, hcc, hcause, s.vresultWord_vcode]
  exact ⟨hread, fun _ => rfl, s.busy_iff, s.isOpen_iff, hrej, haborted, hrvalid, hovf, hres6, hres11, hres15, hok,
    hconn, hillegal, hnone, hopenFailed, hwrite, hreadFailed, hnotOpen, hcc_le, hcause_le, s.vcode.code_le⟩

/-! #### The `RXBUF` window (10_state.md R45) -/

/-- The lanes of a register as its bytes shifted into place (20_memory.md R65). -/
theorem packBytes_eq_or (b0 b1 b2 b3 : Byte) :
    packBytes b0 b1 b2 b3 =
      b3.setWidth 32 <<< 24 ||| b2.setWidth 32 <<< 16 ||| b1.setWidth 32 <<< 8 ||| b0.setWidth 32 := by
  rw [packBytes, ← BitVec.setWidth_eq (b3 ++ b2 ++ b1 ++ b0)]
  simp only [BitVec.setWidth_append_eq_shiftLeft_setWidth_or, BitVec.shiftLeft_or_distrib, ← BitVec.shiftLeft_add]

theorem State.regValue_rxbuf (s : State) (k : Nat) : s.regValue (0x100 + 4 * k) = s.rxbufWord k := by
  simp only [State.regValue]
  repeat rw [if_neg (by omega)]
  rw [show (0x100 + 4 * k - 0x100) / 4 = k by omega]

theorem State.rxbufWord_written {s : State} {k : Nat} {b0 b1 b2 b3 : Byte} (h0 : s.rxbuf.read (4 * k) = some b0)
    (h1 : s.rxbuf.read (4 * k + 1) = some b1) (h2 : s.rxbuf.read (4 * k + 2) = some b2)
    (h3 : s.rxbuf.read (4 * k + 3) = some b3) : s.rxbufWord k = some (packBytes b0 b1 b2 b3) := by
  simp only [State.rxbufWord, h0, h1, h2, h3]

theorem State.rxbufWord_unwritten {s : State} {k i : Nat} (hi : i < 4) (h : s.rxbuf.read (4 * k + i) = none) :
    s.rxbufWord k = none := by
  simp only [State.rxbufWord]
  split
  · interval_cases i <;> simp_all
  · rfl

/-- Settles O43: the window has a specified value exactly where its four bytes are written. -/
theorem rxbufWindowShowsTheBuffer : Obligations.RxbufWindowShowsTheBuffer := by
  intro s k hk
  rw [performEvent_read (by omega) (by omega)]
  refine ⟨fun b0 b1 b2 b3 h0 h1 h2 h3 => ?_, fun i hi hnone => ?_⟩
  · have hword := (s.regValue_rxbuf k).trans (State.rxbufWord_written h0 h1 h2 h3)
    rw [State.regRead_of_some hword, packBytes_eq_or]
  · have hword := (s.regValue_rxbuf k).trans (State.rxbufWord_unwritten hi hnone)
    rw [State.regRead_of_none hword]

end Sys2Proof.Machine

/-! # The family 20_memory.md: the accesses of the host, what a read returns, and which events are enabled -/

namespace Sys2Proof.Machine

/-! ### The accesses the interface refuses (20_memory.md R63, R64) -/

/-- Any access but those of the interface has a reason to be refused (20_memory.md R63, R64). -/
theorem accessRefusal_eq_some {width : AccessWidth} {off : Nat} (h : ¬(width = .word ∧ off % 4 = 0 ∧ off < 0x200)) :
    ∃ r, accessRefusal width off = some r :=
  Option.ne_none_iff_exists'.mp (mt (accessRefusal_eq_none width off).mp h)

theorem performEvent_read_refused {width : AccessWidth} {off : Nat} {r : Refusal}
    (h : accessRefusal width off = some r) (s : State) : performEvent (.host (.read width off)) s = .refused r := by
  simp only [performEvent, hostAccess, h]

theorem performEvent_write_refused {width : AccessWidth} {off : Nat} {r : Refusal}
    (h : accessRefusal width off = some r) (v : Word) (s : State) :
    performEvent (.host (.write width off v)) s = .refused r := by
  simp only [performEvent, hostAccess, h]

/-- Settles O45: what is not an access of the interface has a reason to be refused, for a read and a write alike. -/
theorem otherAccessesAreRefused : Obligations.OtherAccessesAreRefused := by
  intro s width off v h
  have outside : ¬(width = .word ∧ off % 4 = 0 ∧ off < 0x200) := by
    rintro ⟨hwidth, haligned, hrange⟩
    rcases h with hnarrow | hmisaligned | hbeyond
    · exact hnarrow hwidth
    · exact hmisaligned haligned
    · exact absurd hrange (Nat.not_lt.mpr hbeyond)
  obtain ⟨r, hr⟩ := accessRefusal_eq_some outside
  exact ⟨⟨r, performEvent_read_refused hr s⟩, ⟨r, performEvent_write_refused hr v s⟩⟩

/-! ### Reads and ignored writes (20_memory.md R61, R62) -/

/-- The accesses that are not refused write their register (20_memory.md R62 to R64). -/
theorem performEvent_write {off : Nat} (h4 : off % 4 = 0) (hr : off < 0x200) (v : Word) (s : State) :
    performEvent (.host (.write .word off v)) s = regWrite off v s := by
  simp only [performEvent, hostAccess, (accessRefusal_eq_none _ _).mpr ⟨rfl, h4, hr⟩]

theorem regWrite_cmd (v : Word) (s : State) : regWrite 0x000 v s = writeCommand v s := if_pos rfl

theorem regWrite_ignored {off : Nat} (h : off ≠ 0x000) (v : Word) (s : State) : regWrite off v s = .next s := if_neg h

/-- A register read writes at most the two fields of the model that hold what the host has read (log 8, log 21). -/
theorem State.regRead_changes_only_readData_fresh (s : State) (off : Nat) :
    ∃ v n, s.regRead off = { s with readData := v, fresh := n } := by
  rcases State.regRead_cases off s with ⟨v, -, hread⟩ | ⟨-, hread⟩
  · exact ⟨v, s.fresh, hread⟩
  · exact ⟨Config.unspecifiedWord s.fresh, s.fresh + 1, hread⟩

/-- Settles O44: a read is `regRead`, and a write that is not to `CMD` falls to the ignored case. -/
theorem readsAndIgnoredWritesChangeNothing : Obligations.ReadsAndIgnoredWritesChangeNothing := by
  intro s off h4 hr
  refine ⟨?_, fun hcmd v => ?_⟩
  · obtain ⟨v, n, hread⟩ := s.regRead_changes_only_readData_fresh off
    exact ⟨v, n, by rw [performEvent_read h4 hr, hread]⟩
  · rw [performEvent_write h4 hr, regWrite_ignored hcmd]

/-! ### The registers below the `RXBUF` window (20_memory.md R61) -/

/-- A read returns its register's value, where that is specified (20_memory.md R61). -/
theorem performEvent_read_of_regValue {s : State} {off : Nat} {v : Word} (h : s.regValue off = some v)
    (h4 : off % 4 = 0 := by decide) (hr : off < 0x200 := by decide) :
    performEvent (.host (.read .word off)) s = .next { s with readData := v } := by
  rw [performEvent_read h4 hr, State.regRead_of_some h]

/-- `RXLEN` is 9 bits wide, enough for every length of the buffer (10_state.md R30, R39). -/
theorem State.regValue_rxlen {s : State} (h : s.rxlen ≤ 256) :
    s.regValue 0x00C = some (BitVec.ofNat 32 s.rxlen) :=
  congrArg some (BitVec.setWidth_ofNat_of_le_of_lt (by decide) (by omega))

/-- `FIFOLVL` is 16 bits wide, enough for every depth of the FIFO (10_state.md R44). -/
theorem State.regValue_fifolvl {s : State} (h : s.fifo.length ≤ 65535) :
    s.regValue 0x020 = some (BitVec.ofNat 32 s.fifo.length) :=
  congrArg some (BitVec.setWidth_ofNat_of_le_of_lt (by decide) (by omega))

/-- The fields of `VRESULT` shifted into place, the reserved bits 0 (10_state.md R40). -/
theorem State.vresultWord_eq_or (s : State) :
    s.vresultWord =
      s.vobs.setWidth 32 <<< 24 ||| s.vcalc.setWidth 32 <<< 16 ||| s.vrx.setWidth 32 <<< 8 |||
        s.vcode.code.setWidth 32 := by
  rw [State.vresultWord, ← BitVec.setWidth_eq (s.vobs ++ s.vcalc ++ s.vrx ++ 0#5 ++ s.vcode.code)]
  simp only [BitVec.setWidth_append_eq_shiftLeft_setWidth_or, BitVec.shiftLeft_or_distrib, ← BitVec.shiftLeft_add,
    BitVec.setWidth_zero, BitVec.or_zero]

theorem txframeWord_eq : txframeWord = 0x2E2002AA#32 := by decide

theorem configWord_eq : configWord = 0x04200D8C#32 := by decide

/-- The reserved offsets read as 0 (20_memory.md R61). -/
theorem State.regValue_reserved (s : State) {off : Nat} (hlo : 0x024 ≤ off) (hhi : off ≤ 0x0FC) :
    s.regValue off = some 0x00000000#32 := by
  simp only [State.regValue]
  repeat rw [if_neg (by omega)]
  rw [if_pos (by omega)]

/-- Settles O42, register by register: what the state holds is shown as it stands, but for the two counts, the packed
words and the reserved offsets. -/
theorem registerReadsReturnTheState : Obligations.RegisterReadsReturnTheState := by
  intro s hrxlen hfifo
  refine ⟨?cmd, ?status, ?crcAcc, ?rxlen, ?vresult, ?reading, ?txframe, ?config, ?fifolvl,
    fun off h4 hlo hhi => ?reserved⟩
  case rxlen => exact performEvent_read_of_regValue (State.regValue_rxlen hrxlen)
  case vresult => exact performEvent_read_of_regValue (congrArg some s.vresultWord_eq_or)
  case txframe => exact performEvent_read_of_regValue (congrArg some txframeWord_eq)
  case config => exact performEvent_read_of_regValue (congrArg some configWord_eq)
  case fifolvl => exact performEvent_read_of_regValue (State.regValue_fifolvl hfifo)
  case reserved => exact performEvent_read_of_regValue (s.regValue_reserved hlo hhi) h4 (by omega)
  all_goals exact performEvent_read_of_regValue rfl

/-! ### When an event is enabled (20_memory.md R63, R64; 41_framer.md R144 to R155)

An event that happens had its enabling condition (the `_next` lemmas); here is the converse, one `↔` for each. -/

/-- Every command has an outcome in every state (60_exceptions.md R207). -/
theorem exec_happens (i : Instr) (s : State) : ∃ t, exec i s = .next t := by
  cases i <;> exact ⟨_, rfl⟩

/-- Every word written to `CMD` has an outcome in every state (30_encoding.md R96, R99). -/
theorem writeCommand_happens (w : Word) (s : State) : ∃ t, writeCommand w s = .next t := by
  cases hdec : decode w with
  | command i => simpa only [writeCommand_command hdec] using exec_happens i s
  | illegal r => exact ⟨_, writeCommand_illegal hdec s⟩

theorem regWrite_happens (off : Nat) (v : Word) (s : State) : ∃ t, regWrite off v s = .next t := by
  by_cases hcmd : off = 0x000
  · subst hcmd
    simpa only [regWrite_cmd] using writeCommand_happens v s
  · exact ⟨s, regWrite_ignored hcmd v s⟩

theorem happens_read_iff (width : AccessWidth) (off : Nat) (s : State) :
    happens (.host (.read width off)) s ↔ width = .word ∧ off % 4 = 0 ∧ off < 0x200 := by
  constructor
  · rintro ⟨t, h⟩
    by_contra hnot
    obtain ⟨r, hr⟩ := accessRefusal_eq_some hnot
    simp [performEvent_read_refused hr] at h
  · rintro ⟨rfl, h4, hr⟩
    exact ⟨_, performEvent_read h4 hr⟩

theorem happens_write_iff (width : AccessWidth) (off : Nat) (v : Word) (s : State) :
    happens (.host (.write width off v)) s ↔ width = .word ∧ off % 4 = 0 ∧ off < 0x200 := by
  constructor
  · rintro ⟨t, h⟩
    by_contra hnot
    obtain ⟨r, hr⟩ := accessRefusal_eq_some hnot
    simp [performEvent_write_refused hr] at h
  · rintro ⟨rfl, h4, hr⟩
    simpa only [happens, performEvent_write h4 hr] using regWrite_happens off v s

theorem happens_openOk_iff (s : State) : happens .openOk s ↔ s.pend = .opening :=
  ⟨fun ⟨_, h⟩ => (eventOpenOk_next h).1, fun h => ⟨_, if_pos h⟩⟩

theorem happens_openFail_iff (s : State) : happens .openFail s ↔ s.pend = .opening :=
  ⟨fun ⟨_, h⟩ => (eventOpenFail_next h).1, fun h => ⟨_, if_pos h⟩⟩

theorem happens_settleDone_iff (s : State) : happens .settleDone s ↔ s.pend = .settling :=
  ⟨fun ⟨_, h⟩ => (eventSettleDone_next h).1, fun h => ⟨_, if_pos h⟩⟩

theorem happens_tx_iff (s : State) : happens .tx s ↔ ∃ k, s.pend = .sending k := by
  constructor
  · rintro ⟨t, h⟩
    obtain ⟨k, pending, -⟩ := eventTx_next h
    exact ⟨k, pending⟩
  · rintro ⟨k, pending⟩
    simp [happens, performEvent, eventTx, pending]

theorem happens_wrTimeout_iff (s : State) : happens .wrTimeout s ↔ ∃ k, s.pend = .sending k := by
  constructor
  · rintro ⟨t, h⟩
    obtain ⟨k, pending, -⟩ := eventWrTimeout_next h
    exact ⟨k, pending⟩
  · rintro ⟨k, pending⟩
    simp [happens, performEvent, eventWrTimeout, pending]

theorem happens_rdDone_iff (s : State) : happens .rdDone s ↔ (∃ m, s.pend = .reading m) ∧ 1 ≤ s.fifo.length := by
  constructor
  · rintro ⟨t, h⟩
    obtain ⟨m, pending, queued, -⟩ := eventRdDone_next h
    exact ⟨⟨m, pending⟩, queued⟩
  · rintro ⟨⟨m, pending⟩, queued⟩
    simp only [happens, performEvent, eventRdDone, pending, if_pos queued, Host.Outcome.next.injEq, exists_eq']

theorem happens_rdTimeout_iff (s : State) : happens .rdTimeout s ↔ (∃ m, s.pend = .reading m) ∧ s.fifo.length = 0 := by
  constructor
  · rintro ⟨t, h⟩
    obtain ⟨m, pending, empty, -⟩ := eventRdTimeout_next h
    exact ⟨⟨m, pending⟩, empty⟩
  · rintro ⟨⟨m, pending⟩, empty⟩
    simp only [happens, performEvent, eventRdTimeout, pending, if_pos empty, Host.Outcome.next.injEq, exists_eq']

/-- `OPENING` on an open session has no line fault (log 7). -/
theorem happens_lineFault_iff (s : State) : happens .lineFault s ↔ s.sess = .opened ∧ s.pend ≠ .opening := by
  constructor
  · rintro ⟨t, h⟩
    obtain ⟨isOpen, ⟨k, pending, -⟩ | ⟨m, pending, -⟩ | ⟨pending | pending, -⟩⟩ := eventLineFault_next h
    all_goals exact ⟨isOpen, by simp [pending]⟩
  · rintro ⟨isOpen, notOpening⟩
    cases pending : s.pend with
    | opening => exact absurd pending notOpening
    | _ => simp [happens, performEvent, eventLineFault, isOpen, pending]

theorem happens_rx (b : Byte) (s : State) : happens (.rx b) s := ⟨_, rfl⟩

theorem happens_rst (s : State) : happens .rst s := ⟨_, rfl⟩

/-- Settles O7, event by event. -/
theorem eventsHappenExactlyWhenEnabled : Obligations.EventsHappenExactlyWhenEnabled := by
  intro e s
  cases e with
  | host a =>
    cases a with
    | read width off => exact happens_read_iff width off s
    | write width off v => exact happens_write_iff width off v s
  | openOk => exact happens_openOk_iff s
  | openFail => exact happens_openFail_iff s
  | rx b => exact iff_true_intro (happens_rx b s)
  | lineFault => exact happens_lineFault_iff s
  | settleDone => exact happens_settleDone_iff s
  | tx => exact happens_tx_iff s
  | wrTimeout => exact happens_wrTimeout_iff s
  | rdDone => exact happens_rdDone_iff s
  | rdTimeout => exact happens_rdTimeout_iff s
  | rst => exact iff_true_intro (happens_rst s)

end Sys2Proof.Machine

/-! # The family 30_encoding.md: the command words, what they decode to, and what a write of each to `CMD` does -/

namespace Sys2Proof

/-! ### Decoding an encoded command (30_encoding.md R92, R93) -/

theorem decode_commandWord (op arg : Byte) : decode (commandWord op arg) = decodeOp op arg := by
  simp [decode]

theorem maxLenOfArg_argOfMaxLen {n : Nat} (h : 1 ≤ n ∧ n ≤ 256) : maxLenOfArg (argOfMaxLen n) = n := by
  simp only [maxLenOfArg, argOfMaxLen, BitVec.toNat_ofNat]
  omega

/-- Of the operands only the length of `resp.read` is not written to `ARG` as it is, so that it has to be in range
(30_encoding.md R92). -/
theorem decode_encode {i : Instr} (wf : i.wellFormed = true) : decode (encode i) = .command i := by
  cases i with
  | respRead n =>
    have hn : 1 ≤ n ∧ n ≤ 256 := by simpa [Instr.wellFormed] using wf
    simp [encode, decode_commandWord, decodeOp, maxLenOfArg_argOfMaxLen hn]
  | _ => simp [encode, decode_commandWord, decodeOp, decodeNoArg]

/-- Settles O1: an operand in range is written to `ARG` and read back from it. -/
theorem decodeOfEncodedCommand : Obligations.DecodeOfEncodedCommand :=
  fun _ wf => decode_encode wf

/-- Settles O2: the fields of a word give back both the command's operand and the word itself. -/
theorem encodeOfDecodedWord : Obligations.EncodeOfDecodedWord :=
  fun _ _ hdec => ⟨decode_command_wellFormed hdec, (encode_of_decode hdec).symm⟩

/-- The word of `resp.read` by its operand byte (30_encoding.md R92). -/
theorem encode_respRead_of_arg (arg : Byte) :
    encode (.respRead (arg.toNat + 1)) = 0x00001300#32 ||| arg.setWidth 32 := by
  rw [encode_respRead, show argOfMaxLen (arg.toNat + 1) = arg from argOfMaxLen_maxLenOfArg arg]

/-- The decoder reads a command from the command's own word alone. -/
theorem decode_eq_command_iff {w : Word} {i : Instr} :
    decode w = .command i ↔ i.wellFormed = true ∧ encode i = w := by
  refine ⟨encodeOfDecodedWord w i, ?_⟩
  rintro ⟨wf, rfl⟩
  exact decode_encode wf

/-! ### The legal words (30_encoding.md R94) -/

theorem decodeOp_isCommand_iff (op arg : Byte) :
    (∃ i, decodeOp op arg = .command i) ↔
      ((op = 0x02#8 ∨ op = 0x13#8) ∨
        ((op = 0x01#8 ∨ op = 0x10#8 ∨ op = 0x11#8 ∨ op = 0x12#8 ∨ op = 0x20#8) ∧ arg = 0#8)) := by
  constructor
  · rintro ⟨i, hop⟩
    rcases decodeOp_command hop with ⟨ho, ha, -⟩ | ⟨ho, -⟩ | ⟨ho, ha, -⟩ | ⟨ho, ha, -⟩ | ⟨ho, ha, -⟩ | ⟨ho, -⟩ |
      ⟨ho, ha, -⟩ <;> simp [*]
  · rintro ((rfl | rfl) | ⟨rfl | rfl | rfl | rfl | rfl, rfl⟩) <;> simp [decodeOp, decodeNoArg]

/-- The decoder reads a command from exactly the words that R94's formula calls legal. -/
theorem decode_isCommand_iff (w : Word) :
    (∃ i, decode w = .command i) ↔
      rsvField w = 0#16 ∧
        ((opField w = 0x02#8 ∨ opField w = 0x13#8) ∨
          ((opField w = 0x01#8 ∨ opField w = 0x10#8 ∨ opField w = 0x11#8 ∨ opField w = 0x12#8 ∨ opField w = 0x20#8) ∧
            argField w = 0#8)) := by
  rw [← decodeOp_isCommand_iff]
  by_cases hrsv : rsvField w = 0#16 <;> simp [decode, hrsv]

/-- The words of the commands as numbers, the list at the end of 30_encoding.md R93. -/
theorem decode_isCommand_iff_toNat (w : Word) :
    (∃ i, decode w = .command i) ↔
      (w.toNat = 0x00000100 ∨ (0x00000200 ≤ w.toNat ∧ w.toNat ≤ 0x000002FF) ∨ w.toNat = 0x00001000 ∨
        w.toNat = 0x00001100 ∨ w.toNat = 0x00001200 ∨ (0x00001300 ≤ w.toNat ∧ w.toNat ≤ 0x000013FF) ∨
        w.toNat = 0x00002000) := by
  rw [decode_isCommand_iff]
  simp only [rsvField, opField, argField, ← BitVec.toNat_inj, BitVec.extractLsb'_toNat, BitVec.toNat_ofNat,
    Nat.shiftRight_eq_div_pow]
  omega

/-- Settles O3: two words of one command are both the word the encoder gives it. -/
theorem commandsAreTheLegalWords : Obligations.CommandsAreTheLegalWords :=
  ⟨decode_isCommand_iff, decode_isCommand_iff_toNat,
    fun _ _ _ hw hw' => (encode_of_decode hw).trans (encode_of_decode hw').symm⟩

/-- Settles O4: each command is decoded from its own word; each of the last three words has one flaw. -/
theorem writtenOutWordsDecode : Obligations.WrittenOutWordsDecode := by
  refine ⟨?crcInit, ?crcUpdate, ?portOpen, ?portClose, ?reqSend, ?readOne, ?readAll, ?pktValidate, ?illegal⟩
  case illegal => decide
  all_goals exact decode_eq_command_iff.mpr ⟨by decide, by decide⟩

/-! ### The illegal words (30_encoding.md R95) -/

theorem exists_illegal_of_not_command {w : Word} (h : ¬∃ i, decode w = .command i) : ∃ r, decode w = .illegal r := by
  cases hdec : decode w with
  | command i => exact absurd ⟨i, hdec⟩ h
  | illegal r => exact ⟨r, rfl⟩

/-- Each of the three kinds of illegal word that R95 names fails R94's formula. -/
theorem decode_illegal_of_fields {w : Word}
    (h : rsvField w ≠ 0#16 ∨
      opField w ∉ [0x01#8, 0x02#8, 0x10#8, 0x11#8, 0x12#8, 0x13#8, 0x20#8] ∨
      (opField w ∈ [0x01#8, 0x10#8, 0x11#8, 0x12#8, 0x20#8] ∧ argField w ≠ 0#8)) :
    ∃ r, decode w = .illegal r := by
  refine exists_illegal_of_not_command fun hcommand => ?_
  obtain ⟨hrsv, hlegal⟩ := (decode_isCommand_iff w).mp hcommand
  rcases h with hreserved | hunknown | ⟨hnoArg, harg⟩
  · exact hreserved hrsv
  · refine hunknown ?_
    rcases hlegal with (ho | ho) | ⟨ho | ho | ho | ho | ho, -⟩ <;> simp [ho]
  · rcases hlegal with (ho | ho) | ⟨-, hzero⟩
    · simp [ho] at hnoArg
    · simp [ho] at hnoArg
    · exact harg hzero

end Sys2Proof

namespace Sys2Proof.Machine

/-! ### A write of a word to `CMD` (30_encoding.md R95 to R97) -/

/-- An idle block accepts an illegal word and reports it (30_encoding.md R95, R96). -/
theorem writeCommand_illegal_idle {w : Word} {r : IllegalWord} (hdec : decode w = .illegal r) {s : State}
    (idle : s.pend = .none) : writeCommand w s = .next s.accept.illegalCommand := by
  rw [writeCommand_illegal hdec, State.illegalWrite, State.issue_idle _ idle]

/-- Settles O9: a word of each of the three kinds is illegal, and an idle block reports it. -/
theorem illegalWordCompletesWithIllegalCmd : Obligations.IllegalWordCompletesWithIllegalCmd := by
  intro s w idle h
  obtain ⟨r, hdec⟩ := decode_illegal_of_fields h
  exact writeCommand_illegal_idle hdec idle

/-- A busy block drops every word but that of `CLOSE`, legal or not (30_encoding.md R97). -/
theorem writeCommand_busy {w : Word} {s : State} (busy : s.pend ≠ .none) (notClose : w ≠ closeWord) :
    writeCommand w s = .next s.dropCommand := by
  cases hdec : decode w with
  | illegal r => rw [writeCommand_illegal hdec, State.illegalWrite, State.issue_busy _ busy]
  | command i =>
    rw [writeCommand_command hdec]
    obtain ⟨t, ht⟩ := exec_happens i s
    rcases exec_cases i ht with ⟨-, -, rfl⟩ | ⟨rfl, -⟩ | ⟨idle, -⟩
    · exact ht
    · exact absurd (encode_of_decode hdec) notClose
    · exact absurd idle busy

/-- Settles O8: a dropped word sets `rej_busy`, and of the other events only an accepted word and reset clear it. -/
theorem busyBlockDropsEveryWordButClose : Obligations.BusyBlockDropsEveryWordButClose := by
  refine ⟨fun s w busy notClose => writeCommand_busy busy notClose, fun e s t h hset hclear => ?_⟩
  obtain ⟨-, dropped, -, others⟩ := rejBusyAndAbortedFollowAcceptance e s t h
  by_cases hrst : e = .rst
  · exact .inl hrst
  · by_cases hwrite : ∃ w, e = cmdWrite w
    · obtain ⟨w, rfl⟩ := hwrite
      refine .inr ⟨w, rfl, ?_⟩
      by_contra hbusy
      obtain ⟨busy, notClose⟩ := not_or.mp hbusy
      simp [(dropped w rfl busy notClose).1] at hclear
    · have hkept := (others (fun w hw => hwrite ⟨w, hw⟩) hrst).1
      simp [hkept, hset] at hclear

/-- Writing the word of a command runs the command (30_encoding.md R96). -/
theorem performEvent_write_encode {w : Word} {i : Instr} (wf : i.wellFormed = true) (hw : encode i = w) (s : State) :
    performEvent (.host (.write .word 0x000 w)) s = exec i s :=
  writeCommand_command (decode_eq_command_iff.mpr ⟨wf, hw⟩) s

/-- Settles O10: each word of the table is the word of its command. -/
theorem commandWordsRunTheirCommands : Obligations.CommandWordsRunTheirCommands := by
  intro s arg
  have hlength : (Instr.respRead (arg.toNat + 1)).wellFormed = true := by
    simpa [Instr.wellFormed] using arg.isLt
  refine ⟨?crcInit, ?crcUpdate, ?portOpen, ?portClose, ?reqSend, ?respRead, ?pktValidate⟩
  case crcUpdate => exact performEvent_write_encode rfl (encode_crcUpdate arg) s
  case respRead => exact performEvent_write_encode hlength (encode_respRead_of_arg arg) s
  all_goals exact performEvent_write_encode rfl (by decide) s

end Sys2Proof.Machine

/-! # The family 40_crc.md: the CRC-8 function, the commands of the accumulator, and who leaves it alone -/

namespace Sys2Proof.Machine

/-! ### One iteration of the loop (40_crc.md R121)

The shift and the choice of the polynomial are both linear over XOR, so the loop is; it is injective since only 0 goes
to 0. -/

/-- Bit 0 of the value selects the polynomial (40_crc.md R121). -/
theorem crcShift_eq_xor (x : Byte) :
    crcShift x = x >>> 1 ^^^ (if x.getLsbD 0 then Config.crcPoly else 0#8) := by
  rw [crcShift, apply_ite (x >>> 1 ^^^ ·), BitVec.xor_zero]

theorem crcShift_xor (x y : Byte) : crcShift (x ^^^ y) = crcShift x ^^^ crcShift y := by
  have hpoly : (if (x ^^^ y).getLsbD 0 then Config.crcPoly else 0#8) =
      (if x.getLsbD 0 then Config.crcPoly else 0#8) ^^^ (if y.getLsbD 0 then Config.crcPoly else 0#8) := by
    rw [BitVec.getLsbD_xor]
    cases x.getLsbD 0 <;> cases y.getLsbD 0 <;> simp
  rw [crcShift_eq_xor, hpoly, BitVec.ushiftRight_xor_distrib, crcShift_eq_xor x, crcShift_eq_xor y]
  ac_rfl

/-- The shift puts a 0 into bit 7, where the polynomial has a 1: bit 7 of the result is the bit tested. -/
theorem crcShift_getLsbD_seven (x : Byte) : (crcShift x).getLsbD 7 = x.getLsbD 0 := by
  rw [crcShift_eq_xor, BitVec.getLsbD_xor]
  cases x.getLsbD 0 <;> simp [Config.crcPoly]

/-- Only 0 is shifted to 0. -/
theorem crcShift_eq_zero {x : Byte} (h : crcShift x = 0#8) : x = 0#8 := by
  have hbit : x.getLsbD 0 = false := by rw [← crcShift_getLsbD_seven, h]; rfl
  have hrest : x >>> 1 = 0#8 := by rwa [crcShift, hbit, if_neg Bool.false_ne_true] at h
  refine BitVec.eq_of_getLsbD_eq fun i hi => ?_
  cases i with
  | zero => simpa using hbit
  | succ i =>
    have hshifted := congrArg (BitVec.getLsbD · i) hrest
    simpa [BitVec.getLsbD_ushiftRight, Nat.add_comm] using hshifted

theorem crcShift_injective : Function.Injective crcShift := by
  intro x y hxy
  refine BitVec.xor_eq_zero_iff.mp (crcShift_eq_zero ?_)
  rw [crcShift_xor, hxy, BitVec.xor_self]

/-! ### The loop and the CRC of a sequence (40_crc.md R120 to R122) -/

theorem crcShifts_xor (n : Nat) (x y : Byte) : crcShifts n (x ^^^ y) = crcShifts n x ^^^ crcShifts n y := by
  induction n generalizing x y with
  | zero => rfl
  | succ n ih => simp only [crcShifts, crcShift_xor, ih]

theorem crcShifts_zero (n : Nat) : crcShifts n 0#8 = 0#8 := by
  calc crcShifts n 0#8 = crcShifts n (0#8 ^^^ 0#8) := by rw [BitVec.xor_self]
    _ = crcShifts n 0#8 ^^^ crcShifts n 0#8 := crcShifts_xor n _ _
    _ = 0#8 := BitVec.xor_self

theorem crcShifts_injective (n : Nat) : Function.Injective (crcShifts n) := by
  induction n with
  | zero => exact Function.injective_id
  | succ n ih => exact ih.comp crcShift_injective

theorem crcShifts_bijective (n : Nat) : Function.Bijective (crcShifts n) :=
  have : Finite Byte := .of_equiv _ BitVec.equivFin.symm.toEquiv
  (crcShifts_injective n).bijective_of_finite

/-- The byte the accumulator holds clears it (40_crc.md R122, R124). -/
theorem crc8Step_self (a : Byte) : crc8Step a a = 0#8 := by
  rw [crc8Step, BitVec.xor_self, crcShifts_zero]

theorem crc8_append_byte (seq : List Byte) (b : Byte) : crc8 (seq ++ [b]) = crc8Step (crc8 seq) b :=
  List.foldl_concat ..

/-- Settles O12: every property of the loop comes from one iteration, and a sequence's own CRC clears the
accumulator. -/
theorem crcLoopIsALinearBijection : Obligations.CrcLoopIsALinearBijection := by
  refine ⟨?empty, crc8_append_byte, fun _ _ => ?step, crcShifts_xor 8, crcShifts_zero 8, crcShifts_bijective 8,
    fun seq => ?ownCrc, ?examples⟩
  case empty | step => rfl
  case ownCrc => rw [crc8_append_byte, crc8Step_self]
  case examples => simp [crc8, crc8Step, crcShifts, crcShift, Config.crcPoly, Config.crcInitValue]

/-- One byte further along a sequence (40_crc.md R127). -/
theorem crc8_append_byte_eq {seq : List Byte} {a b c : Byte} (hseq : crc8 seq = a) (hstep : crc8Step a b = c) :
    crc8 (seq ++ [b]) = c := by
  rw [crc8_append_byte, hseq, hstep]

theorem crc8_requestFrame_one : crc8 [0xAA#8] = 0xD1#8 := by decide

theorem crc8_requestFrame_two : crc8 [0xAA#8, 0x02#8] = 0xB5#8 :=
  crc8_append_byte_eq crc8_requestFrame_one (by decide)

theorem crc8_requestFrame_three : crc8 [0xAA#8, 0x02#8, 0x20#8] = 0x2E#8 :=
  crc8_append_byte_eq crc8_requestFrame_two (by decide)

/-- Settles O13: the frame's last byte is the CRC of R127, and the two registers hold constants. -/
theorem requestFrameEndsWithItsCrc : Obligations.RequestFrameEndsWithItsCrc :=
  ⟨crc8_requestFrame_one, crc8_requestFrame_two, crc8_requestFrame_three, rfl, crc8_requestFrame_three.symm,
    txframeWord_eq, configWord_eq⟩

/-! ### The commands of the accumulator (40_crc.md R123 to R125) -/

theorem exec_crcInit_idle {s : State} (idle : s.pend = .none) :
    exec .crcInit s = .next (s.accept.setAcc Config.crcInitValue) := by
  rw [exec_crcInit, State.issue_idle _ idle]

theorem exec_crcUpdate_idle {s : State} (idle : s.pend = .none) (b : Byte) :
    exec (.crcUpdate b) s = .next (s.accept.setAcc (crc8Step s.acc b)) := by
  rw [exec_crcUpdate, State.issue_idle _ idle, State.accept_acc]

theorem exec_crcInit_busy {s : State} (busy : s.pend ≠ .none) : exec .crcInit s = .next s.dropCommand := by
  rw [exec_crcInit, State.issue_busy _ busy]

theorem exec_crcUpdate_busy {s : State} (busy : s.pend ≠ .none) (b : Byte) :
    exec (.crcUpdate b) s = .next s.dropCommand := by
  rw [exec_crcUpdate, State.issue_busy _ busy]

/-- The opcode of `crc.init` has one legal word (30_encoding.md R94, R95). -/
theorem rsv_or_arg_ne_zero_of_not_crcInit {w : Word} (hop : opField w = 0x01#8) (hw : w ≠ 0x00000100#32) :
    rsvField w ≠ 0#16 ∨ argField w ≠ 0#8 := by
  by_contra hzero
  obtain ⟨hrsv, harg⟩ : rsvField w = 0#16 ∧ argField w = 0#8 := by simpa using hzero
  refine hw ?_
  rw [← commandWord_fields w hrsv, hop, harg]
  decide

/-- Settles O14: a malformed `crc.init` word has a nonzero `RSV` or `ARG`, which an idle block reports. -/
theorem crcInitClearsTheAccumulator : Obligations.CrcInitClearsTheAccumulator := by
  refine ⟨by decide, fun _ => exec_crcInit_idle, fun _ => exec_crcInit_busy, fun s w idle hop hw => ?_⟩
  refine illegalWordCompletesWithIllegalCmd s w idle ?_
  rcases rsv_or_arg_ne_zero_of_not_crcInit hop hw with hrsv | harg
  · exact .inl hrsv
  · exact .inr (.inr ⟨by simp [hop], harg⟩)

/-- Settles O15: the last clause is that a byte clears the accumulator that holds it. -/
theorem crcUpdateTakesOneByte : Obligations.CrcUpdateTakesOneByte := by
  refine ⟨encode_crcUpdate, fun _ b idle => exec_crcUpdate_idle idle b, fun _ b busy => exec_crcUpdate_busy busy b,
    fun s w idle _ hrsv => illegalWordCompletesWithIllegalCmd s w idle (.inl hrsv), fun s t idle h => ?_⟩
  rw [exec_crcUpdate_idle idle, crc8Step_self] at h
  cases h
  rfl

theorem performEvents_cons_of_next {e : Event} {s t : State} (h : performEvent e s = .next t) (es : List Event) :
    performEvents (e :: es) s = performEvents es t := by
  simp only [performEvents, h]

/-- The event of a command runs the command (30_encoding.md R96). -/
theorem performEvent_commandEvent {i : Instr} (wf : i.wellFormed = true) (s : State) :
    performEvent (commandEvent i) s = exec i s :=
  performEvent_write_encode wf rfl s

/-- Updates on an idle block fold their bytes into the accumulator, from any value on; the flags are those of the last
acceptance (40_crc.md R125). -/
theorem performEvents_crcUpdates {s : State} (idle : s.pend = .none) (seq : List Byte) (a : Byte) :
    performEvents (seq.map fun b => commandEvent (.crcUpdate b)) (s.accept.setAcc a) =
      .next (s.accept.setAcc (seq.foldl crc8Step a)) := by
  induction seq generalizing a with
  | nil => rfl
  | cons b seq ih =>
    have hfirst : performEvent (commandEvent (.crcUpdate b)) (s.accept.setAcc a) =
        .next (s.accept.setAcc (crc8Step a b)) :=
      (performEvent_commandEvent rfl _).trans (exec_crcUpdate_idle (by simpa using idle) b)
    rw [List.map_cons, performEvents_cons_of_next hfirst, ih, List.foldl_cons]

/-- Settles O16: `crc.init` starts the fold that `crc8` is. -/
theorem crcOfASequenceOfUpdates : Obligations.CrcOfASequenceOfUpdates := by
  intro s seq idle
  have hinit : performEvent (commandEvent .crcInit) s = .next (s.accept.setAcc Config.crcInitValue) :=
    (performEvent_commandEvent rfl s).trans (exec_crcInit_idle idle)
  exact ⟨_, (performEvents_cons_of_next hinit _).trans (performEvents_crcUpdates idle seq _), rfl⟩

/-! ### The framer and the validator leave the accumulator alone (40_crc.md R126) -/

/-- The operation does the same whatever the accumulator holds, and hands it on. -/
def IgnoresAcc (f : State → State) : Prop := ∀ (s : State) (a : Byte), f (s.setAcc a) = (f s).setAcc a

/-- What does the same for every accumulator does not write it either: put the state's own value in. -/
theorem IgnoresAcc.acc_eq {f : State → State} (hf : IgnoresAcc f) (s : State) : (f s).acc = s.acc :=
  calc (f s).acc = ((f s).setAcc s.acc).acc := congrArg State.acc (hf s s.acc)
    _ = s.acc := State.setAcc_acc _ _

theorem IgnoresAcc.comp {f g : State → State} (hg : IgnoresAcc g) (hf : IgnoresAcc f) :
    IgnoresAcc fun s => g (f s) :=
  fun s a => (congrArg g (hf s a)).trans (hg (f s) a)

theorem ignoresAcc_accept : IgnoresAcc State.accept := fun _ _ => rfl

theorem ignoresAcc_teardown : IgnoresAcc State.teardown := fun _ _ => rfl

theorem ignoresAcc_setPend (p : Pend) : IgnoresAcc (State.setPend p) := fun _ _ => rfl

/-- Acceptance looks at `pend` alone (30_encoding.md R96). -/
theorem IgnoresAcc.issue {f : State → State} (hf : IgnoresAcc f) : IgnoresAcc (State.issue f) := by
  intro s a
  by_cases idle : s.pend = .none
  · rw [State.issue_idle f idle, State.issue_idle f (s := s.setAcc a) idle]
    exact hf.comp ignoresAcc_accept s a
  · rw [State.issue_busy f idle, State.issue_busy f (s := s.setAcc a) idle]
    rfl

theorem ignoresAcc_discardPending : IgnoresAcc State.discardPending := by
  intro s a
  cases hp : s.pend <;> simp only [State.discardPending, State.setAcc_pend, hp] <;> rfl

/-- The branches look at the session and at `line_err`, and none writes the accumulator (41_framer.md R148). -/
theorem ignoresAcc_sendRequest : IgnoresAcc State.sendRequest := by
  intro s a
  simp only [State.sendRequest, apply_ite (State.setAcc a)]
  rfl

theorem ignoresAcc_readResponse (n : Nat) : IgnoresAcc (State.readResponse n) := by
  intro s a
  simp only [State.readResponse, apply_ite (State.setAcc a)]
  rfl

/-- The validator's checksum is a value of `crc8` over the buffer (42_validator.md R183). -/
theorem ignoresAcc_validate : IgnoresAcc State.validate := by
  intro s a
  simp only [State.validate, apply_ite (State.setAcc a)]
  rfl

/-- Every command of the framer and of the validator is an operation that ignores the accumulator. -/
theorem exec_ignoresAcc {i : Instr} (notInit : i ≠ .crcInit) (notUpdate : ∀ b, i ≠ .crcUpdate b) :
    ∃ f, IgnoresAcc f ∧ ∀ s, exec i s = .next (f s) := by
  cases i with
  | crcInit => exact absurd rfl notInit
  | crcUpdate b => exact absurd rfl (notUpdate b)
  | portOpen => exact ⟨_, ((ignoresAcc_setPend .opening).comp ignoresAcc_teardown).issue, exec_portOpen⟩
  | portClose =>
    exact ⟨_, ignoresAcc_teardown.comp (ignoresAcc_discardPending.comp ignoresAcc_accept), exec_portClose⟩
  | reqSend => exact ⟨_, ignoresAcc_sendRequest.issue, exec_reqSend⟩
  | respRead n => exact ⟨_, (ignoresAcc_readResponse n).issue, exec_respRead n⟩
  | pktValidate => exact ⟨_, ignoresAcc_validate.issue, exec_pktValidate⟩

/-- Settles O18: the other commands are operations that ignore the accumulator. -/
theorem framerAndValidatorIgnoreTheAccumulator : Obligations.FramerAndValidatorIgnoreTheAccumulator := by
  intro s t a i notInit notUpdate h
  obtain ⟨f, hf, hexec⟩ := exec_ignoresAcc notInit notUpdate
  obtain rfl : f s = t := by simpa [hexec] using h
  exact ⟨hf.acc_eq s, (hexec (s.setAcc a)).trans (congrArg _ (hf s a))⟩

end Sys2Proof.Machine

/-! # The family 41_framer.md: the session, the FIFO, the commands of the framer and the events that move them -/

namespace Sys2Proof.Machine

/-! ### The rules of the session along every run (41_framer.md R142) -/

/-- The rules of the session do not ask about the announced events (log 1). -/
theorem SessionInvariant.announced {s : State} (hs : SessionInvariant s) (es : List Event) :
    SessionInvariant (s.announced es) :=
  { hs with }

/-- The rules of the session do not ask about the model's counter (log 21). -/
theorem SessionInvariant.drawFresh {s : State} (hs : SessionInvariant s) : SessionInvariant s.drawFresh :=
  { hs with }

theorem performEvent_sessionInvariant {e : Event} {s t : State} (h : performEvent e s = .next t)
    (hs : SessionInvariant s) : SessionInvariant t :=
  (performEvent_transition h).sessionInvariant hs

/-- Settles O55: a step is an event, after the announced list or the model's counter has moved. -/
theorem everyStepKeepsTheSessionRules : Obligations.EveryStepKeepsTheSessionRules := by
  intro s t hs h
  rcases step_cases h with ⟨e, rest, -, hnext⟩ | ⟨-, hnext⟩ | ⟨-, rfl⟩
  · exact performEvent_sessionInvariant hnext (hs.announced rest)
  · exact performEvent_sessionInvariant hnext hs.drawFresh
  · exact hs.drawFresh

/-- Every reachable state has the invariant: a run starts in the reset of a block with valid parameters. -/
theorem Reachable.inv {s : State} (h : Reachable s) : Inv s := by
  induction h with
  | reset p es valid => exact inv_resetBlock (s := { State.reset with params := p, script := es }) valid
  | step _ next ih => exact everyStepKeepsTheInvariant _ _ ih next

/-- Settles O52: the rules are those of the invariant, its three rules of an open session taken together. -/
theorem reachableStatesKeepTheSessionRules : Obligations.ReachableStatesKeepTheSessionRules := by
  intro s h
  obtain ⟨closedClean, settlingOpen, sendingOpen, readingOpen, openingClosed⟩ := h.inv.session
  refine ⟨closedClean, ?_, openingClosed⟩
  rintro (hp | ⟨k, hp⟩ | ⟨m, hp⟩)
  · exact settlingOpen hp
  · exact sendingOpen k hp
  · exact readingOpen m hp

/-- Settles O53: the bytes that `rxlen` counts are written. -/
theorem validationNeverReadsAnUnwrittenByte : Obligations.ValidationNeverReadsAnUnwrittenByte := by
  intro s h hlen i hi
  obtain ⟨b, hread⟩ := h.inv.storage.deliveredWritten i (by omega)
  rw [hread, State.packetByte_of_read hread]

/-! ### Who opens and closes the session, and who writes the FIFO (41_framer.md R140, R158) -/

/-- An accepted `req.send` keeps the session and the FIFO, or is a connection fault (41_framer.md R148). -/
theorem State.sendRequest_keeps_or_faults (s : State) :
    (s.sendRequest.sess = s.sess ∧ s.sendRequest.fifo = s.fifo) ∨
      s.sendRequest = s.lineCommandFault .writeFailed := by
  rcases s.sendRequest_cases with ⟨-, hsend⟩ | ⟨-, -, hsend⟩ | ⟨-, -, hsend⟩
  · exact .inl (by simp [hsend])
  · exact .inr hsend
  · exact .inl (by simp [hsend])

/-- An accepted `resp.read` keeps the session and the FIFO, or is a connection fault (41_framer.md R151). -/
theorem State.readResponse_keeps_or_faults (n : Nat) (s : State) :
    ((s.readResponse n).sess = s.sess ∧ (s.readResponse n).fifo = s.fifo) ∨
      s.readResponse n = (s.setRxlen 0).lineCommandFault .readFailed := by
  rcases s.readResponse_cases n with ⟨-, hread⟩ | ⟨-, -, hread⟩ | ⟨-, -, hread⟩
  · exact .inl (by simp [hread])
  · exact .inr hread
  · exact .inl (by simp [hread])

/-- Settles O29: the ways an event happens that are not named keep the session as it is. -/
theorem sessionOpensOnlyAtOpenOk : Obligations.SessionOpensOnlyAtOpenOk := by
  intro e s t h
  cases performEvent_transition h with
  | openOk pending => exact ⟨fun _ _ => ⟨rfl, pending, rfl⟩, by simp⟩
  | rst => exact ⟨by simp, fun _ _ => .inl rfl⟩
  | portOpen idle => exact ⟨by simp, fun _ _ => .inr (.inl ⟨rfl, idle⟩)⟩
  | portClose => exact ⟨by simp, fun _ _ => .inr (.inr (.inl rfl))⟩
  | wrTimeout | lineFaultSending => exact ⟨by simp, fun _ _ => .inr (.inr (.inr ⟨rfl, rfl, .inl rfl⟩))⟩
  | lineFaultReading => exact ⟨by simp, fun _ _ => .inr (.inr (.inr ⟨rfl, rfl, .inr rfl⟩))⟩
  | reqSend =>
    rcases s.accept.sendRequest_keeps_or_faults with ⟨hsess, -⟩ | hfault
    · simp +contextual [hsess]
    · simp [hfault]
  | respRead n =>
    rcases s.accept.readResponse_keeps_or_faults n with ⟨hsess, -⟩ | hfault
    · simp +contextual [hsess]
    · simp [hfault]
  | _ => simp +contextual

/-- Settles O33: the ways an event happens that are not named keep the FIFO as it is. -/
theorem fifoIsAStreamWithoutResynchronisation : Obligations.FifoIsAStreamWithoutResynchronisation := by
  intro e s t h
  cases performEvent_transition h with
  | rxQueued b isOpen => exact .inr (.inl ⟨b, rfl, isOpen, rfl⟩)
  | rdDone m pending => exact .inr (.inr (.inl ⟨rfl, m, pending, rfl, rfl⟩))
  | rst => exact .inr (.inr (.inr ⟨rfl, .inl rfl⟩))
  | portOpen idle => exact .inr (.inr (.inr ⟨rfl, .inr (.inl ⟨rfl, idle⟩)⟩))
  | portClose => exact .inr (.inr (.inr ⟨rfl, .inr (.inr (.inl rfl))⟩))
  | wrTimeout | lineFaultSending | lineFaultReading =>
    exact .inr (.inr (.inr ⟨rfl, .inr (.inr (.inr ⟨rfl, rfl⟩))⟩))
  | reqSend =>
    rcases s.accept.sendRequest_keeps_or_faults with ⟨-, hfifo⟩ | hfault
    · exact .inl hfifo
    · simp [hfault]
  | respRead n =>
    rcases s.accept.readResponse_keeps_or_faults n with ⟨-, hfifo⟩ | hfault
    · exact .inl hfifo
    · simp [hfault]
  | _ => exact .inl (by simp)

/-! ### What each event does where it is enabled (41_framer.md R144 to R155)

An event that happens has the effect of its rule (the `_next` lemmas); here is the effect from the enabling
condition. -/

theorem performEvent_openOk {s : State} (pending : s.pend = .opening) :
    performEvent .openOk s = .next (s.openSession.setPend .settling) := if_pos pending

theorem performEvent_openFail {s : State} (pending : s.pend = .opening) :
    performEvent .openFail s = .next (s.connFault .openFailed) := if_pos pending

theorem performEvent_settleDone {s : State} (pending : s.pend = .settling) :
    performEvent .settleDone s = .next (s.complete .ok .none) := if_pos pending

theorem performEvent_tx_more {s : State} {k : Fin 4} (pending : s.pend = .sending k) (more : k ≠ 3) :
    performEvent .tx s = .next ((s.emitTx (Config.reqFrame k)).setPend (.sending (k + 1))) := by
  simp only [performEvent, eventTx, pending, if_neg more]

theorem performEvent_tx_last {s : State} (pending : s.pend = .sending 3) :
    performEvent .tx s = .next ((s.emitTx 0x2E#8).complete .ok .none) := by
  simp only [performEvent, eventTx, pending, if_pos]
  rfl

theorem performEvent_wrTimeout {s : State} {k : Fin 4} (pending : s.pend = .sending k) :
    performEvent .wrTimeout s = .next (s.lineCommandFault .writeFailed) := by
  simp only [performEvent, eventWrTimeout, pending]

theorem performEvent_rdDone {s : State} {m : Nat} (pending : s.pend = .reading m) (queued : 1 ≤ s.fifo.length) :
    performEvent .rdDone s = .next ((s.deliver m).complete .ok .none) := by
  simp only [performEvent, eventRdDone, pending, if_pos queued]

theorem performEvent_rdTimeout {s : State} {m : Nat} (pending : s.pend = .reading m) (empty : s.fifo.length = 0) :
    performEvent .rdTimeout s = .next ((s.setRxlen 0).complete .ok .none) := by
  simp only [performEvent, eventRdTimeout, pending, if_pos empty]

theorem performEvent_rx_queued {s : State} (isOpen : s.sess = .opened) (room : s.fifo.length < s.params.rxFifoDepth)
    (b : Byte) : performEvent (.rx b) s = .next (s.queueByte b) := by
  simp only [performEvent, eventRx, if_pos isOpen, if_pos room]

theorem performEvent_rx_full {s : State} (isOpen : s.sess = .opened) (full : s.params.rxFifoDepth ≤ s.fifo.length)
    (b : Byte) : performEvent (.rx b) s = .next s.markOverflow := by
  simp only [performEvent, eventRx, if_pos isOpen, if_neg (Nat.not_lt.mpr full)]

theorem performEvent_rx_closed {s : State} (closed : s.sess = .closed) (b : Byte) :
    performEvent (.rx b) s = .next s := by
  simp [performEvent, eventRx, closed]

theorem performEvent_lineFault_sending {s : State} {k : Fin 4} (isOpen : s.sess = .opened)
    (pending : s.pend = .sending k) : performEvent .lineFault s = .next (s.lineCommandFault .writeFailed) := by
  simp only [performEvent, eventLineFault, if_pos isOpen, pending]

theorem performEvent_lineFault_reading {s : State} {m : Nat} (isOpen : s.sess = .opened)
    (pending : s.pend = .reading m) :
    performEvent .lineFault s = .next ((s.setRxlen 0).lineCommandFault .readFailed) := by
  simp only [performEvent, eventLineFault, if_pos isOpen, pending]

theorem performEvent_lineFault_latent {s : State} (isOpen : s.sess = .opened)
    (pending : s.pend = .none ∨ s.pend = .settling) : performEvent .lineFault s = .next s.markLineErr := by
  rcases pending with pending | pending <;> simp only [performEvent, eventLineFault, if_pos isOpen, pending]

/-- An event that does not happen has no step. -/
theorem performEvent_ne_next {e : Event} {s : State} (h : ¬happens e s) (t : State) : performEvent e s ≠ .next t :=
  fun hnext => h ⟨t, hnext⟩

/-- Settles O23: each event happens in its stage alone. -/
theorem openAttemptEvents : Obligations.OpenAttemptEvents := by
  refine ⟨fun _ => performEvent_openOk, fun _ => performEvent_openFail, fun _ => performEvent_settleDone,
    fun s t h => ⟨?openOk, ?openFail⟩, fun s t h => ?settleDone⟩
  case openOk => exact performEvent_ne_next (mt (happens_openOk_iff s).mp h) t
  case openFail => exact performEvent_ne_next (mt (happens_openFail_iff s).mp h) t
  case settleDone => exact performEvent_ne_next (mt (happens_settleDone_iff s).mp h) t

/-- Settles O24: the bytes are those of `REQ_FRAME`, the last of which completes the command. -/
theorem transmissionEvents : Obligations.TransmissionEvents := by
  refine ⟨?first, ?second, ?third, fun _ => performEvent_tx_last, fun _ _ => performEvent_wrTimeout,
    fun s t h => ⟨?tx, ?wrTimeout⟩⟩
  case first | second | third => exact fun s pending => performEvent_tx_more pending (by decide)
  case tx => exact performEvent_ne_next (mt (happens_tx_iff s).mp (not_exists.mpr h)) t
  case wrTimeout => exact performEvent_ne_next (mt (happens_wrTimeout_iff s).mp (not_exists.mpr h)) t

/-- Settles O25: a delivery writes the bytes it takes off the FIFO and leaves the rest of the buffer. -/
theorem readDoneDeliversInOrder : Obligations.ReadDoneDeliversInOrder := by
  refine ⟨fun s m pending queued => ⟨_, performEvent_rdDone pending queued, s.deliver_read m, rfl⟩,
    fun s t h => ?_⟩
  refine performEvent_ne_next (fun hap => ?_) t
  obtain ⟨⟨m, pending⟩, queued⟩ := (happens_rdDone_iff s).mp hap
  rcases h with notReading | empty
  · exact notReading m pending
  · simp [empty] at queued

/-- Settles O26: the read completes with `rxlen` 0, and only where nothing is queued. -/
theorem readTimeoutReturnsNothing : Obligations.ReadTimeoutReturnsNothing := by
  refine ⟨fun s m pending empty => performEvent_rdTimeout pending (List.length_eq_zero_iff.mpr empty),
    fun s t h => ?_⟩
  refine performEvent_ne_next (fun hap => ?_) t
  obtain ⟨⟨m, pending⟩, empty⟩ := (happens_rdTimeout_iff s).mp hap
  rcases h with notReading | queued
  · exact notReading m pending
  · exact queued (List.length_eq_zero_iff.mp empty)

/-- Settles O27: the session and the room in the FIFO decide. -/
theorem receivedByteIsQueuedOrLost : Obligations.ReceivedByteIsQueuedOrLost := fun _ b =>
  ⟨fun isOpen room => performEvent_rx_queued isOpen room b, fun isOpen full => performEvent_rx_full isOpen full b,
    fun closed => performEvent_rx_closed closed b⟩

/-- Settles O28: the session and the pending command decide. -/
theorem lineFaultIsReportedOrRecorded : Obligations.LineFaultIsReportedOrRecorded := by
  refine ⟨fun _ _ => performEvent_lineFault_sending, fun _ _ => performEvent_lineFault_reading,
    fun _ => performEvent_lineFault_latent, fun s t closed => ?_⟩
  refine performEvent_ne_next (fun hap => ?_) t
  obtain ⟨isOpen, -⟩ := (happens_lineFault_iff s).mp hap
  simp [closed] at isOpen

/-! ### The commands of the framer (41_framer.md R143, R147, R148, R151) -/

/-- A busy block drops every command but `CLOSE` (30_encoding.md R97, R98). -/
theorem exec_busy {i : Instr} (notClose : i ≠ .portClose) {s : State} (busy : s.pend ≠ .none) :
    exec i s = .next s.dropCommand := by
  obtain ⟨t, ht⟩ := exec_happens i s
  rcases exec_cases i ht with ⟨-, -, rfl⟩ | ⟨hclose, -⟩ | ⟨idle, -⟩
  · exact ht
  · exact absurd hclose notClose
  · exact absurd idle busy

/-- On an idle block a completion writes the outcome alone. -/
theorem State.complete_idle {s : State} (idle : s.pend = .none) (c : CompletionCode) (d : Cause) :
    s.complete c d = { s with cc := c, cause := d } := by
  rw [State.complete, idle]

/-- Settles O19: an idle block accepts, and a busy one drops. -/
theorem portOpenTearsDownAndWaits : Obligations.PortOpenTearsDownAndWaits := by
  refine ⟨by decide, fun s idle => ?_, fun _ => exec_busy (by decide)⟩
  rw [exec_portOpen, State.issue_idle _ idle]
  rfl

/-- `CLOSE` has nothing to discard on an idle block. -/
theorem State.discardPending_idle {s : State} (idle : s.pend = .none) : s.discardPending = s := by
  simp only [State.discardPending, idle]

theorem State.discardPending_reading {s : State} {m : Nat} (pending : s.pend = .reading m) :
    s.discardPending = (s.markAborted.setRxlen 0).setPend .none := by
  simp only [State.discardPending, pending]

/-- Every pending command but a read is discarded in the same way (41_framer.md R147). -/
theorem State.discardPending_not_reading {s : State} (busy : s.pend ≠ .none)
    (notReading : ∀ m, s.pend ≠ .reading m) : s.discardPending = s.markAborted.setPend .none := by
  rcases s.discardPending_cases with ⟨idle, -⟩ | ⟨m, pending, -⟩ | ⟨-, -, hdiscard⟩
  · exact absurd idle busy
  · exact absurd pending (notReading m)
  · exact hdiscard

/-- A second `CLOSE` finds an idle block, torn down, and clears the mark of the first (41_framer.md R147). -/
theorem exec_portClose_twice (s : State) :
    exec .portClose s.accept.discardPending.teardown =
      .next { s.accept.discardPending.teardown with aborted := false } := by
  have idle : s.accept.discardPending.teardown.accept.pend = .none := by simp
  rw [exec_portClose, State.discardPending_idle idle]
  simp [State.accept, State.teardown]

/-- Settles O20: what is discarded depends on the pending command, and the teardown does not. -/
theorem portCloseEndsWhateverIsPending : Obligations.PortCloseEndsWhateverIsPending := by
  refine ⟨by decide, fun s idle => ?idle, fun s busy notReading => ?busy, fun s m pending => ?reading,
    fun s t h => ?twice⟩
  case idle =>
    rw [exec_portClose, State.discardPending_idle (s := s.accept) idle]
    rfl
  case busy =>
    rw [exec_portClose, State.discardPending_not_reading (s := s.accept) busy notReading]
    rfl
  case reading =>
    rw [exec_portClose, State.discardPending_reading (s := s.accept) pending]
    rfl
  case twice =>
    cases h
    exact exec_portClose_twice s

theorem State.sendRequest_closed {s : State} (closed : s.sess = .closed) : s.sendRequest = s.connFault .notOpen :=
  if_pos closed

theorem State.sendRequest_broken {s : State} (isOpen : s.sess = .opened) (broken : s.lineErr = true) :
    s.sendRequest = s.lineCommandFault .writeFailed := by
  simp [State.sendRequest, isOpen, broken]

theorem State.sendRequest_starts {s : State} (isOpen : s.sess = .opened) (sound : s.lineErr = false) :
    s.sendRequest = s.setPend (.sending 0) := by
  simp [State.sendRequest, isOpen, sound]

theorem exec_reqSend_idle {s : State} (idle : s.pend = .none) : exec .reqSend s = .next s.accept.sendRequest := by
  rw [exec_reqSend, State.issue_idle _ idle]

/-- Settles O21: a fault leaves the idle block idle. -/
theorem reqSendStartsOrFaults : Obligations.ReqSendStartsOrFaults := by
  refine ⟨by decide, fun s idle isOpen sound => ?starts, fun s idle closed => ?notOpen,
    fun s idle isOpen broken => ?broken, fun _ => exec_busy (by decide)⟩
  case starts =>
    rw [exec_reqSend_idle idle, State.sendRequest_starts (s := s.accept) isOpen sound]
    rfl
  case notOpen =>
    rw [exec_reqSend_idle idle, State.sendRequest_closed (s := s.accept) closed, State.connFault,
      State.complete_idle (s := s.accept) idle]
    rfl
  case broken =>
    rw [exec_reqSend_idle idle, State.sendRequest_broken (s := s.accept) isOpen broken, State.lineCommandFault,
      State.connFault, State.complete_idle (s := s.accept.teardown) idle]
    rfl

theorem State.readResponse_closed {s : State} (closed : s.sess = .closed) (n : Nat) :
    s.readResponse n = (s.setRxlen 0).connFault .notOpen := if_pos closed

theorem State.readResponse_broken {s : State} (isOpen : s.sess = .opened) (broken : s.lineErr = true) (n : Nat) :
    s.readResponse n = (s.setRxlen 0).lineCommandFault .readFailed := by
  simp [State.readResponse, isOpen, broken]

theorem State.readResponse_starts {s : State} (isOpen : s.sess = .opened) (sound : s.lineErr = false) (n : Nat) :
    s.readResponse n = s.setPend (.reading n) := by
  simp [State.readResponse, isOpen, sound]

theorem exec_respRead_idle {s : State} (idle : s.pend = .none) (n : Nat) :
    exec (.respRead n) s = .next (s.accept.readResponse n) := by
  rw [exec_respRead, State.issue_idle _ idle]

/-- The word of `resp.read n` for a length in range, its operand as a number (30_encoding.md R92, R101). -/
theorem encode_respRead_of_le {n : Nat} (hn : n ≤ 256) :
    encode (.respRead n) = 0x00001300#32 ||| BitVec.ofNat 32 (n - 1) := by
  rw [encode_respRead, argOfMaxLen, BitVec.setWidth_ofNat_of_le_of_lt (by decide) (by omega)]

/-- Settles O22: a fault leaves the idle block idle. -/
theorem respReadStartsOrFaults : Obligations.RespReadStartsOrFaults := by
  intro n _ hn
  refine ⟨encode_respRead_of_le hn, fun s idle isOpen sound => ?starts, fun s idle closed => ?notOpen,
    fun s idle isOpen broken => ?broken, fun _ => exec_busy (by simp)⟩
  case starts =>
    rw [exec_respRead_idle idle, State.readResponse_starts (s := s.accept) isOpen sound]
    rfl
  case notOpen =>
    rw [exec_respRead_idle idle, State.readResponse_closed (s := s.accept) closed, State.connFault,
      State.complete_idle (s := s.accept.setRxlen 0) idle]
    rfl
  case broken =>
    rw [exec_respRead_idle idle, State.readResponse_broken (s := s.accept) isOpen broken, State.lineCommandFault,
      State.connFault, State.complete_idle (s := (s.accept.setRxlen 0).teardown) idle]
    rfl

/-! ### A whole transmission (41_framer.md R157) -/

/-- `pend` after `j` transmit events of a `req.send` (41_framer.md R149). -/
def Pend.afterSent (j : Nat) : Pend := if h : j < 4 then .sending ⟨j, h⟩ else .none

theorem Pend.afterSent_of_lt {j : Nat} (h : j < 4) : Pend.afterSent j = .sending ⟨j, h⟩ := dif_pos h

theorem Pend.afterSent_succ {k : Fin 4} (more : k ≠ 3) : Pend.afterSent (k.val + 1) = .sending (k + 1) := by
  revert k
  decide

theorem Pend.afterSent_eq_none_iff (j : Nat) : Pend.afterSent j = .none ↔ 4 ≤ j := by
  by_cases h : j < 4
  · simp [Pend.afterSent, h]
  · simp [Pend.afterSent, h, Nat.not_lt.mp h]

/-- The request frame as the bytes of R157. -/
def frameBytes : List Byte := [0xAA#8, 0x02#8, 0x20#8, 0x2E#8]

theorem frameBytes_take_succ (k : Fin 4) :
    frameBytes.take (k.val + 1) = frameBytes.take k.val ++ [Config.reqFrame k] := by
  revert k
  decide

/-- `j` bytes of the frame have been sent since `txlog` was `log`, and nothing has gone wrong. -/
structure FrameSent (log : List Byte) (j : Nat) (s : State) : Prop where
  sent : s.txlog = log ++ frameBytes.take j
  progress : s.pend = Pend.afterSent j
  ok : s.cc = .ok
  noCause : s.cause = .none
  isOpen : s.sess = .opened

/-- A received byte writes the FIFO or `ovf` alone (41_framer.md R154). -/
theorem FrameSent.rx {log : List Byte} {j : Nat} {s : State} (hs : FrameSent log j s) (b : Byte) :
    ∃ t, performEvent (.rx b) s = .next t ∧ FrameSent log j t := by
  obtain ⟨t, h⟩ := happens_rx b s
  refine ⟨t, h, ?_⟩
  obtain ⟨-, -, rfl⟩ | ⟨-, -, rfl⟩ | ⟨-, rfl⟩ := eventRx_next h
  · exact { hs with }
  · exact { hs with }
  · exact hs

/-- A transmit event sends the next byte, and the fourth completes the command (41_framer.md R149). -/
theorem FrameSent.tx {log : List Byte} {k : Fin 4} {s : State} (hs : FrameSent log k s) :
    ∃ t, performEvent .tx s = .next t ∧ FrameSent log (k + 1) t := by
  have pending : s.pend = .sending k := hs.progress.trans (Pend.afterSent_of_lt k.isLt)
  have sent : s.txlog ++ [Config.reqFrame k] = log ++ frameBytes.take (k + 1) := by
    rw [hs.sent, frameBytes_take_succ, List.append_assoc]
  by_cases last : k = 3
  · subst last
    exact ⟨_, performEvent_tx_last pending,
      { sent := sent, progress := rfl, ok := rfl, noCause := rfl, isOpen := hs.isOpen }⟩
  · exact ⟨_, performEvent_tx_more pending last,
      { hs with sent := sent, progress := (Pend.afterSent_succ last).symm }⟩

/-- Transmit events and received bytes in any order go on with the frame (41_framer.md R157). -/
theorem FrameSent.performEvents {log : List Byte} {es : List Event} (hes : ∀ e ∈ es, e = .tx ∨ ∃ b, e = .rx b)
    {j : Nat} {s : State} (hs : FrameSent log j s) (hcount : j + es.count .tx ≤ 4) :
    ∃ t, performEvents es s = .next t ∧ FrameSent log (j + es.count .tx) t := by
  induction es generalizing j s with
  | nil => exact ⟨s, rfl, hs⟩
  | cons e es ih =>
    obtain ⟨he, hrest⟩ := List.forall_mem_cons.mp hes
    rcases he with rfl | ⟨b, rfl⟩
    · rw [List.count_cons_self] at hcount ⊢
      obtain ⟨u, hu, hsent⟩ := FrameSent.tx (k := ⟨j, by omega⟩) hs
      rw [performEvents_cons_of_next hu, show j + (es.count .tx + 1) = j + 1 + es.count .tx by omega]
      exact ih hrest hsent (by omega)
    · rw [List.count_cons_of_ne (by simp)] at hcount ⊢
      obtain ⟨u, hu, hsent⟩ := hs.rx b
      rw [performEvents_cons_of_next hu]
      exact ih hrest hsent hcount

/-- No byte is sent yet where `req.send` has started on an open session (41_framer.md R148). -/
theorem frameSent_start {s : State} (isOpen : s.sess = .opened) :
    FrameSent s.txlog 0 (s.accept.setPend (.sending 0)) where
  sent := by simp
  progress := rfl
  ok := rfl
  noCause := rfl
  isOpen := isOpen

/-- Settles O30, by induction on the events after `req.send`. -/
theorem requestFrameIsSentInOrder : Obligations.RequestFrameIsSentInOrder := by
  intro s es idle isOpen sound hes hcount
  have hstart : performEvent (commandEvent .reqSend) s = .next (s.accept.setPend (.sending 0)) := by
    rw [performEvent_commandEvent rfl, exec_reqSend_idle idle, State.sendRequest_starts (s := s.accept) isOpen sound]
  obtain ⟨t, ht, hsent⟩ := (frameSent_start isOpen).performEvents hes (by omega)
  rw [Nat.zero_add] at hsent
  refine ⟨t, (performEvents_cons_of_next hstart es).trans ht, hsent.sent, ?_, hsent.ok, hsent.noCause, hsent.isOpen⟩
  rw [hsent.progress, Pend.afterSent_eq_none_iff]
  omega

end Sys2Proof.Machine

/-! # The family 42_validator.md: the rules of a validation, and what its checksum detects -/

namespace Sys2Proof.Machine

/-! ### One changed byte changes the CRC (40_crc.md R122, 42_validator.md R189)

The step is injective in the byte it takes and in the accumulator: a changed byte changes the accumulator, and the bytes
after it keep the difference. -/

theorem crc8Step_injective (a : Byte) : Function.Injective (crc8Step a) := fun _ _ h =>
  (BitVec.xor_right_inj a).mp (crcShifts_injective 8 h)

theorem crc8Step_left_injective (b : Byte) : Function.Injective (crc8Step · b) := fun _ _ h =>
  (BitVec.xor_left_inj b).mp (crcShifts_injective 8 h)

theorem foldl_crc8Step_injective (seq : List Byte) : Function.Injective (seq.foldl crc8Step) := by
  induction seq with
  | nil => exact Function.injective_id
  | cons b seq ih => exact ih.comp (crc8Step_left_injective b)

theorem foldl_crc8Step_set_ne {seq : List Byte} {i : Nat} {b : Byte} (hi : i < seq.length) (hb : b ≠ seq[i])
    (a : Byte) : (seq.set i b).foldl crc8Step a ≠ seq.foldl crc8Step a := by
  induction seq generalizing i a with
  | nil => simp at hi
  | cons c seq ih =>
    cases i with
    | zero => exact fun h => hb (crc8Step_injective a (foldl_crc8Step_injective seq h))
    | succ i => exact ih (Nat.lt_of_succ_lt_succ hi) hb (crc8Step a c)

theorem crc8_set_ne {seq : List Byte} {i : Nat} {b : Byte} (hi : i < seq.length) (hb : b ≠ seq[i]) :
    crc8 (seq.set i b) ≠ crc8 seq :=
  foldl_crc8Step_set_ne hi hb Config.crcInitValue

/-- Changing one value of a function changes one entry of its list, or none if it lies behind the end. -/
theorem map_range_ite_eq_set (p : Nat → Byte) (i n : Nat) (b : Byte) :
    ((List.range n).map fun j => if j = i then b else p j) = ((List.range n).map p).set i b :=
  List.ext_getElem (by simp) (by simp [List.getElem_set, eq_comm])

/-! ### The packet a validation reads, and its outcome (42_validator.md R181 to R188) -/

/-- The state holds a whole response, of whose packet the validator reads the bytes `p` (42_validator.md R181): a free
value where a byte is `UNWRITTEN` (log 5). -/
structure State.ShowsPacket (s : State) (p : Nat → Byte) : Prop where
  whole : Config.pktLen ≤ s.rxlen
  byte : ∀ i, i < Config.pktLen → s.packetByte i = p i

theorem State.ShowsPacket.of_read {s : State} {p : Nat → Byte} (whole : Config.pktLen ≤ s.rxlen)
    (written : ∀ i, i < Config.pktLen → s.rxbuf.read i = some (p i)) : s.ShowsPacket p :=
  ⟨whole, fun i hi => State.packetByte_of_read (written i hi)⟩

/-- Acceptance leaves the response alone (30_encoding.md R96). -/
theorem State.ShowsPacket.accept {s : State} {p : Nat → Byte} (h : s.ShowsPacket p) : s.accept.ShowsPacket p :=
  ⟨h.whole, h.byte⟩

/-- The checksum covers the packet up to its last byte (42_validator.md R183). -/
theorem State.ShowsPacket.checkedBytes {s : State} {p : Nat → Byte} (h : s.ShowsPacket p) :
    s.checkedBytes = (List.range 12).map p := by
  refine List.map_congr_left fun i hi => ?_
  have hlast : i < Config.pktLen - 1 := List.mem_range.mp hi
  rw [Nat.zero_add]
  exact h.byte i (Nat.lt_of_lt_pred hlast)

theorem State.validate_short {s : State} (short : s.rxlen < Config.pktLen) :
    s.validate = s.recordResult .tooShort 0#8 0#8 0#8 := if_pos short

/-- A validation of a whole response, in terms of the packet's bytes (42_validator.md R183 to R186). -/
theorem State.ShowsPacket.validate {s : State} {p : Nat → Byte} (h : s.ShowsPacket p) :
    s.validate =
      if crc8 ((List.range 12).map p) ≠ p 12 then
        s.recordResult .checksumMismatch (p 12) (crc8 ((List.range 12).map p)) 0#8
      else if p 2 ≠ Config.pktMarker then
        s.recordResult .unexpectedMarker (p 12) (crc8 ((List.range 12).map p)) (p 2)
      else if p 3 ≠ Config.pktCount then
        s.recordResult .unexpectedSensorCount (p 12) (crc8 ((List.range 12).map p)) (p 3)
      else
        (s.setReading (scaledReading (bigEndian16 (p 4) (p 5)))).recordResult .ok (p 12)
          (crc8 ((List.range 12).map p)) 0#8 := by
  rw [State.validate, if_neg (Nat.not_lt.mpr h.whole), State.acceptReading, h.checkedBytes, h.byte 2 (by decide),
    h.byte 3 (by decide), h.byte 4 (by decide), h.byte 5 (by decide), h.byte 12 (by decide)]

theorem State.ShowsPacket.validate_mismatch {s : State} {p : Nat → Byte} (h : s.ShowsPacket p)
    (mismatch : crc8 ((List.range 12).map p) ≠ p 12) :
    s.validate = s.recordResult .checksumMismatch (p 12) (crc8 ((List.range 12).map p)) 0#8 := by
  rw [h.validate, if_pos mismatch]

theorem State.ShowsPacket.validate_wellFormed {s : State} {p : Nat → Byte} (h : s.ShowsPacket p)
    (ownCrc : crc8 ((List.range 12).map p) = p 12) (marker : p 2 = Config.pktMarker)
    (count : p 3 = Config.pktCount) :
    s.validate =
      (s.setReading (scaledReading (bigEndian16 (p 4) (p 5)))).recordResult .ok (p 12)
        (crc8 ((List.range 12).map p)) 0#8 := by
  rw [h.validate, if_neg (not_not_intro ownCrc), if_neg (not_not_intro marker), if_neg (not_not_intro count)]

theorem exec_pktValidate_idle {s : State} (idle : s.pend = .none) :
    exec .pktValidate s = .next s.accept.validate := by
  rw [exec_pktValidate, State.issue_idle _ idle]

/-! ### What two validations of one packet agree on (42_validator.md R189) -/

/-- Two validations with the same outcome: the same result, and the same reading where it is written
(42_validator.md R180, R189). -/
def SameOutcome (s u : State) : Prop :=
  s.vcode = u.vcode ∧ s.vrx = u.vrx ∧ s.vcalc = u.vcalc ∧ s.vobs = u.vobs ∧
    (s.vcode = .ok → s.reading = u.reading ∧ s.rvalid = u.rvalid)

theorem recordResult_sameOutcome {v : VCode} (notOk : v ≠ .ok) (r c o : Byte) (s u : State) :
    SameOutcome (s.recordResult v r c o) (u.recordResult v r c o) :=
  ⟨rfl, rfl, rfl, rfl, fun h => absurd h notOk⟩

/-- The same packet gives the same outcome, by the rule that decides. -/
theorem State.ShowsPacket.sameOutcome {s u : State} {p : Nat → Byte} (hs : s.ShowsPacket p) (hu : u.ShowsPacket p) :
    SameOutcome s.validate u.validate := by
  rw [hs.validate, hu.validate]
  split_ifs
  case neg => exact ⟨rfl, rfl, rfl, rfl, fun _ => ⟨rfl, rfl⟩⟩
  all_goals exact recordResult_sameOutcome (by decide) _ _ _ _ _

/-! ### `pkt.validate` (42_validator.md R180) -/

/-- Settles O35: the length is the first rule, and it reads no byte. -/
theorem shortResponseIsTooShort : Obligations.ShortResponseIsTooShort := by
  refine ⟨fun s idle short => ?_, fun _ => exec_busy (by decide)⟩
  rw [exec_pktValidate_idle idle, State.validate_short (s := s.accept) short]
  rfl

/-- Settles O36: the rules judge the packet that the written bytes show. -/
theorem packetIsJudgedByTheRulesInOrder : Obligations.PacketIsJudgedByTheRulesInOrder := by
  intro s p idle whole written
  refine ⟨_, rfl, ?_⟩
  rw [exec_pktValidate_idle idle, (State.ShowsPacket.of_read whole written).accept.validate]
  rfl

/-- A scaled 16-bit value fits into 32 bits (42_validator.md R186). -/
theorem scaledReading_toNat {raw : Nat} (h : raw < 65536) : (scaledReading raw).toNat = raw * 100 := by
  simp only [scaledReading, Config.readingScale, BitVec.toNat_ofNat]
  omega

/-- Settles O37: no rule fails, and the scaled reading fits. -/
theorem wellFormedPacketGivesItsReading : Obligations.WellFormedPacketGivesItsReading := by
  intro s p idle whole written marker count ownCrc
  refine ⟨_, exec_pktValidate_idle idle, ?_⟩
  rw [(State.ShowsPacket.of_read whole written).accept.validate_wellFormed ownCrc.symm marker count]
  exact ⟨rfl, rfl, rfl, scaledReading_toNat (bigEndian16_lt (p 4) (p 5))⟩

/-- Settles O38: a change of the last byte leaves the CRC of the others as it was, and any other change is one the CRC
shows. -/
theorem oneCorruptedByteIsDetected : Obligations.OneCorruptedByteIsDetected := by
  intro s p i b idle whole ownCrc hi changed written
  have hcrc : i = 12 → crc8 (((List.range 12).map p).set i b) = p 12 := by
    rintro rfl
    rw [List.set_eq_of_length_le (by simp), ownCrc]
  have hmismatch : crc8 (((List.range 12).map p).set i b) ≠ if 12 = i then b else p 12 := by
    by_cases hlast : i = 12
    · rw [hcrc hlast, if_pos hlast.symm, ← hlast]
      exact changed.symm
    · rw [if_neg (Ne.symm hlast), ownCrc]
      exact crc8_set_ne (by simp; omega) (by simpa using changed)
  refine ⟨_, exec_pktValidate_idle idle, ?_⟩
  rw [← map_range_ite_eq_set] at hcrc hmismatch
  rw [(State.ShowsPacket.of_read whole written).accept.validate_mismatch hmismatch]
  exact ⟨rfl, if_congr eq_comm rfl rfl, hcrc, rfl, rfl⟩

/-- Settles O39: both are short, or both show the packet that the first one shows. -/
theorem validationReadsThePacketOnly : Obligations.ValidationReadsThePacketOnly := by
  intro s u s' u' idle idle' sameLength sameBytes hs hu
  rw [exec_pktValidate_idle idle] at hs
  rw [exec_pktValidate_idle idle'] at hu
  cases hs
  cases hu
  change SameOutcome s.accept.validate u.accept.validate
  by_cases short : s.rxlen < 13
  · rw [State.validate_short (s := s.accept) short, State.validate_short (s := u.accept) (sameLength.mp short)]
    exact recordResult_sameOutcome (by decide) _ _ _ _ _
  · have whole : 13 ≤ s.rxlen := Nat.le_of_not_lt short
    have hshows : s.ShowsPacket s.packetByte := ⟨whole, fun _ _ => rfl⟩
    have hshows' : u.ShowsPacket s.packetByte :=
      ⟨Nat.le_of_not_lt (mt sameLength.mpr short), fun i hi => by simp only [State.packetByte, sameBytes whole i hi]⟩
    exact hshows.accept.sameOutcome hshows'.accept

end Sys2Proof.Machine

/-! # The family 60_exceptions.md: how long an outcome stands, and which of two events decides it -/

namespace Sys2Proof.Machine

/-! ### What ends a report (60_exceptions.md R208) -/

/-- Settles O46: an idle block completes nothing, so each event that can happen in it, a write to `CMD` and a reset
apart, leaves the outcome alone. -/
theorem outcomeIsKeptUntilTheNextCommand : Obligations.OutcomeIsKeptUntilTheNextCommand := by
  intro e s t idle h notCmd notRst
  cases performEvent_transition h with
  | rst => exact absurd rfl notRst
  | dropped w | illegal w => exact absurd rfl (notCmd w)
  | crcInit | crcUpdate | portOpen | portClose | reqSend | respRead | pktValidate => exact absurd rfl (notCmd _)
  | openOk pending | openFail pending | settleDone pending | txMore _ pending | txLast _ pending
  | wrTimeout _ pending | rdDone _ pending | rdTimeout _ pending | lineFaultSending _ _ pending
  | lineFaultReading _ _ pending => simp [idle] at pending
  | read | ignoredWrite | rxQueued | rxLost | rxClosed | lineFaultLatent => simp [idle]

/-! ### The end of the data and a line fault, both possible (60_exceptions.md R206) -/

/-- The data first: the read has ended when the line breaks, so the fault is only recorded (41_framer.md R152, R155). -/
theorem performEvents_rdDone_lineFault {s : State} {m : Nat} (isOpen : s.sess = .opened)
    (pending : s.pend = .reading m) (queued : 1 ≤ s.fifo.length) :
    performEvents [.rdDone, .lineFault] s = .next ((s.deliver m).complete .ok .none).markLineErr := by
  have latent : performEvent .lineFault ((s.deliver m).complete .ok .none) =
      .next ((s.deliver m).complete .ok .none).markLineErr :=
    performEvent_lineFault_latent (by simp [isOpen]) (.inl rfl)
  rw [performEvents_cons_of_next (performEvent_rdDone pending queued), performEvents_cons_of_next latent,
    performEvents]

/-- An idle block delivers nothing (41_framer.md R152). -/
theorem not_happens_rdDone_idle {s : State} (idle : s.pend = .none) : ¬happens .rdDone s := by
  simp [happens_rdDone_iff, idle]

/-- Settles O47: either event ends the read, so the other one finds an idle block. -/
theorem firstOfTwoEnabledEventsDecides : Obligations.FirstOfTwoEnabledEventsDecides := by
  intro s m isOpen pending queued
  constructor
  · exact ⟨_, performEvents_rdDone_lineFault isOpen pending queued, by simp [isOpen]⟩
  · refine ⟨(s.setRxlen 0).lineCommandFault .readFailed, ?_, rfl, rfl, rfl, rfl,
      performEvent_ne_next (not_happens_rdDone_idle rfl)⟩
    rw [performEvents_cons_of_next (performEvent_lineFault_reading isOpen pending), performEvents]

end Sys2Proof.Machine

/-! # The family 70_reset_and_hazards.md: what a reset writes, what is no reset, and the response that a read finds -/

namespace Sys2Proof.Machine

/-! ### A response that has arrived (70_reset_and_hazards.md R236)

While a read is pending, received bytes queue up behind the response or are lost; either way its bytes stay at the head
of the FIFO, and the delivery starts with them. -/

/-- A read of at most `n` bytes is pending, and the bytes `p` stand at the head of the FIFO. -/
structure ReadAwaits (n : Nat) (p : List Byte) (s : State) : Prop where
  pending : s.pend = .reading n
  arrived : ∃ q, s.fifo = p ++ q

/-- A read has completed, and the response buffer starts with the bytes `p`. -/
structure ReadDelivered (p : List Byte) (s : State) : Prop where
  ended : s.pend = .none
  ok : s.cc = .ok
  whole : p.length ≤ s.rxlen
  bytes : ∀ i, i < p.length → s.rxbuf.read i = p[i]?

/-- A received byte joins the FIFO at its end or not at all (41_framer.md R154). -/
theorem ReadAwaits.rx {n : Nat} {p : List Byte} {s : State} (hs : ReadAwaits n p s) (b : Byte) :
    ∃ t, performEvent (.rx b) s = .next t ∧ ReadAwaits n p t := by
  obtain ⟨q, hfifo⟩ := hs.arrived
  obtain ⟨t, h⟩ := happens_rx b s
  refine ⟨t, h, ?_⟩
  obtain ⟨-, -, rfl⟩ | ⟨-, -, rfl⟩ | ⟨-, rfl⟩ := eventRx_next h
  · exact { hs with arrived := ⟨q ++ [b], by simp [hfifo]⟩ }
  · exact { hs with }
  · exact hs

/-- The end of the read delivers the response first (41_framer.md R152). -/
theorem ReadAwaits.rdDone {n : Nat} {p : List Byte} {s : State} (hs : ReadAwaits n p s) (nonempty : 1 ≤ p.length)
    (fits : p.length ≤ n) :
    ∃ t, performEvent .rdDone s = .next t ∧ ReadDelivered p t := by
  obtain ⟨q, hfifo⟩ := hs.arrived
  have queued : p.length ≤ s.fifo.length := by simp [hfifo]
  have delivered : p.length ≤ min s.fifo.length n := le_min queued fits
  refine ⟨_, performEvent_rdDone hs.pending (nonempty.trans queued),
    { ended := rfl, ok := rfl, whole := delivered, bytes := fun i hi => ?_ }⟩
  calc (s.deliver n).rxbuf.read i
    _ = s.fifo[i]? := by rw [State.deliver_read, if_pos (hi.trans_le delivered)]
    _ = p[i]? := by rw [hfifo, List.getElem?_append_left hi]

/-- However many bytes are received before the read ends, it delivers the response first. -/
theorem ReadAwaits.receive_rdDone {n : Nat} {p : List Byte} (nonempty : 1 ≤ p.length) (fits : p.length ≤ n)
    (bs : List Byte) {s : State} (hs : ReadAwaits n p s) :
    ∃ t, performEvents (bs.map .rx ++ [.rdDone]) s = .next t ∧ ReadDelivered p t := by
  induction bs generalizing s with
  | nil =>
    obtain ⟨t, ht, hdelivered⟩ := hs.rdDone nonempty fits
    exact ⟨t, performEvents_cons_of_next ht [], hdelivered⟩
  | cons b bs ih =>
    obtain ⟨u, hu, hawaits⟩ := hs.rx b
    rw [List.map_cons, List.cons_append, performEvents_cons_of_next hu]
    exact ih hawaits

/-- Settles O32, by induction on the bytes received while the read is pending. -/
theorem arrivedResponseIsReadWhole : Obligations.ArrivedResponseIsReadWhole := by
  intro s p q bs idle isOpen sound hfifo hlen
  have hstart : performEvent (commandEvent (.respRead 256)) s = .next (s.accept.setPend (.reading 256)) := by
    rw [performEvent_commandEvent rfl, exec_respRead_idle idle, State.readResponse_starts (s := s.accept) isOpen sound]
  have awaits : ReadAwaits 256 p (s.accept.setPend (.reading 256)) := ⟨rfl, q, hfifo⟩
  obtain ⟨t, ht, ended, ok, whole, bytes⟩ := awaits.receive_rdDone (by omega) (by omega) bs
  rw [hlen] at whole bytes
  exact ⟨t, (performEvents_cons_of_next hstart _).trans ht, ended, ok, whole, bytes⟩

/-! ### Reset, and what is no reset (70_reset_and_hazards.md R230, R231) -/

/-- Settles O48: the reset input is enabled in every state, and it leaves `resetBlock`. -/
theorem resetSetsEveryField : Obligations.ResetSetsEveryField := by
  intro s
  have hrst : performEvent .rst s = .next s.resetBlock := rfl
  exact ⟨s.resetBlock, hrst, by simp⟩

/-- `CLOSE` on an idle block is the teardown alone (41_framer.md R147). -/
theorem exec_portClose_idle {s : State} (idle : s.pend = .none) : exec .portClose s = .next s.accept.teardown := by
  rw [exec_portClose, State.discardPending_idle (s := s.accept) idle]

/-- Settles O49: the teardown resets the framer, `crc.init` the accumulator, and each acceptance the outcome. -/
theorem closeThenCrcInitIsNotAReset : Obligations.CloseThenCrcInitIsNotAReset := by
  intro s idle
  have hclose : performEvent (commandEvent .portClose) s = .next s.accept.teardown := by
    rw [performEvent_commandEvent rfl, exec_portClose_idle idle]
  have hinit : performEvent (commandEvent .crcInit) s.accept.teardown =
      .next (s.accept.teardown.accept.setAcc Config.crcInitValue) := by
    rw [performEvent_commandEvent rfl, exec_crcInit_idle (s := s.accept.teardown) idle]
  rw [performEvents_cons_of_next hclose, performEvents_cons_of_next hinit, performEvents]
  simp [State.ext_iff, State.reset, Config.crcInitValue, idle]

end Sys2Proof.Machine
